-- ==== Sys2Proof/Word.lean ====
section
/-! DEFINITION. The two bit-vector widths of the block: the 32-bit register word (spec/00_scope.md R7,
W = 32) and the 8-bit buffer byte (spec/20_memory.md R50). -/

namespace Sys2Proof

/-- A 32-bit unsigned word: every host-visible register, the candidate word and the write data
(R7, R21-R29, R70). -/
abbrev Word := BitVec 32

/-- An 8-bit unsigned byte of the buffer memory (R50). -/
abbrev Byte := BitVec 8

end Sys2Proof
end

