-- ==== Sys2Proof/Config.lean ====
section
/-! DEFINITION. What an implementation fixes (spec/00_scope.md R6, R7) and the values the spec leaves
unspecified (spec/93_implementation_defined.md ID-4, ID-5), the latter as constants without a body. -/

namespace Sys2Proof

/-- `P_HDR_LAYOUT` (R6): where the header decoder reads the bitrate index, the sample-rate index and the
padding bit. -/
inductive HdrLayout where
  | mpegStd
  | docTable
deriving DecidableEq, Repr

/-- The implementation parameters of R6 and R7. They are carried by the state (field `cfg`) because the
step takes a state alone, and no step changes them. `P_INSTANCES` is the length of
`Platform.instances`, at least 1 in a legal platform (`Platform.Legal`). -/
structure Config where
  /-- `P_HDR_LAYOUT`, read by the host as CFG bit 0 (R29). -/
  hdrLayout : HdrLayout
  /-- `P_BUF_MAX`, read by the host as BUFMAX (R29): a natural of at most 2^32 − 1, so 32 bits hold it. -/
  bufMax : Word
  /-- `P_REG_BASE` (R51): the bus address of the register window. -/
  regBase : Nat
  /-- `P_BUF_BASE` (R50): the bus address of the buffer window. -/
  bufBase : Nat
deriving DecidableEq, Repr

/-- The size in bytes of the register window (R51: a 4 KiB space). -/
def Config.regWindow : Nat := 0x1000

/-- The parameters of the machine right after reset. `MPEG_STD` is this hardware's layout (R6, decision
D5). The other three are OPEN in the spec. DESIGN CHOICE (log 1): the capacity is the one of the spec's
test vectors and the two windows lie one after the other from bus address 0. No statement rests on
them. -/
def Config.hardware : Config :=
  { hdrLayout := .mpegStd, bufMax := 0x00100000, regBase := 0, bufBase := 0x1000 }

/-- The two windows do not overlap (decision D3: "The windows must not overlap."). -/
def Config.wf (c : Config) : Bool :=
  decide (c.regBase + Config.regWindow ≤ c.bufBase) ||
    decide (c.bufBase + c.bufMax.toNat ≤ c.regBase)

/-- FREE VALUE (log 3): the byte that BUFMEM holds at an offset after a power-up, before the first host
write to it (R66, ID-5). The arguments are the register-window address that tells the instance apart
(R243), the number of the power-up (`State.powerUps`) and the offset. DESIGN CHOICE (log 3): two power-ups
with equal numbers of instances at the same address hold the same bytes. -/
opaque Config.freeByte : Nat → Nat → Nat → Byte

/-- FREE VALUE (log 4): what the header latch HDR holds outside a SCAN step (R31, R260, ID-4). The
arguments are the register-window address that tells the instance apart (R243) and the plain counter
`State.draws`. -/
opaque Config.freeWord : Nat → Nat → Word

end Sys2Proof
end

