-- ==== Sys2Proof/Syntax.lean ====
section
/-! DEFINITION. The instruction set: one constructor per row of spec/opcode_table.json, with every bit of
the row's format that the row does not fix as an operand (spec/30_encoding.md). A scanner row is what the
block reads out of BUFMEM; a host row is one bus access to the block (spec/40_host_interface.md R100). -/

namespace Sys2Proof

/-- The direction of a host access (R82, R83). -/
inductive Dir where
  | read
  | write
deriving DecidableEq, Repr

/-- One host access as the bus carries it: a bus address, a direction, a width in bits and the low 32 bits
of the write data (R82, R83). The width is free, because a malformed access (R109, R110) is told by it. -/
structure BusAccess where
  addr : Nat
  dir : Dir
  width : Nat
  data : Word
deriving DecidableEq, Repr

/-- One constructor per row of spec/opcode_table.json. -/
inductive Instr where
  /-- FRAME_MPEG_STD_B1_S0. FRAME(1, 0) under MPEG_STD: 32 kbps, 44100 Hz (R76). -/
  | frameMpegStdB1S0 (prot : BitVec 1) (pad : BitVec 1) (low : BitVec 9)
  /-- FRAME_MPEG_STD_B1_S1. FRAME(1, 1) under MPEG_STD: 32 kbps, 48000 Hz (R76). -/
  | frameMpegStdB1S1 (prot : BitVec 1) (pad : BitVec 1) (low : BitVec 9)
  /-- FRAME_MPEG_STD_B1_S2. FRAME(1, 2) under MPEG_STD: 32 kbps, 32000 Hz (R76). -/
  | frameMpegStdB1S2 (prot : BitVec 1) (pad : BitVec 1) (low : BitVec 9)
  /-- FRAME_MPEG_STD_B2_S0. FRAME(2, 0) under MPEG_STD: 40 kbps, 44100 Hz (R76). -/
  | frameMpegStdB2S0 (prot : BitVec 1) (pad : BitVec 1) (low : BitVec 9)
  /-- FRAME_MPEG_STD_B2_S1. FRAME(2, 1) under MPEG_STD: 40 kbps, 48000 Hz (R76). -/
  | frameMpegStdB2S1 (prot : BitVec 1) (pad : BitVec 1) (low : BitVec 9)
  /-- FRAME_MPEG_STD_B2_S2. FRAME(2, 2) under MPEG_STD: 40 kbps, 32000 Hz (R76). -/
  | frameMpegStdB2S2 (prot : BitVec 1) (pad : BitVec 1) (low : BitVec 9)
  /-- FRAME_MPEG_STD_B3_S0. FRAME(3, 0) under MPEG_STD: 48 kbps, 44100 Hz (R76). -/
  | frameMpegStdB3S0 (prot : BitVec 1) (pad : BitVec 1) (low : BitVec 9)
  /-- FRAME_MPEG_STD_B3_S1. FRAME(3, 1) under MPEG_STD: 48 kbps, 48000 Hz (R76). -/
  | frameMpegStdB3S1 (prot : BitVec 1) (pad : BitVec 1) (low : BitVec 9)
  /-- FRAME_MPEG_STD_B3_S2. FRAME(3, 2) under MPEG_STD: 48 kbps, 32000 Hz (R76). -/
  | frameMpegStdB3S2 (prot : BitVec 1) (pad : BitVec 1) (low : BitVec 9)
  /-- FRAME_MPEG_STD_B4_S0. FRAME(4, 0) under MPEG_STD: 56 kbps, 44100 Hz (R76). -/
  | frameMpegStdB4S0 (prot : BitVec 1) (pad : BitVec 1) (low : BitVec 9)
  /-- FRAME_MPEG_STD_B4_S1. FRAME(4, 1) under MPEG_STD: 56 kbps, 48000 Hz (R76). -/
  | frameMpegStdB4S1 (prot : BitVec 1) (pad : BitVec 1) (low : BitVec 9)
  /-- FRAME_MPEG_STD_B4_S2. FRAME(4, 2) under MPEG_STD: 56 kbps, 32000 Hz (R76). -/
  | frameMpegStdB4S2 (prot : BitVec 1) (pad : BitVec 1) (low : BitVec 9)
  /-- FRAME_MPEG_STD_B5_S0. FRAME(5, 0) under MPEG_STD: 64 kbps, 44100 Hz (R76). -/
  | frameMpegStdB5S0 (prot : BitVec 1) (pad : BitVec 1) (low : BitVec 9)
  /-- FRAME_MPEG_STD_B5_S1. FRAME(5, 1) under MPEG_STD: 64 kbps, 48000 Hz (R76). -/
  | frameMpegStdB5S1 (prot : BitVec 1) (pad : BitVec 1) (low : BitVec 9)
  /-- FRAME_MPEG_STD_B5_S2. FRAME(5, 2) under MPEG_STD: 64 kbps, 32000 Hz (R76). -/
  | frameMpegStdB5S2 (prot : BitVec 1) (pad : BitVec 1) (low : BitVec 9)
  /-- FRAME_MPEG_STD_B6_S0. FRAME(6, 0) under MPEG_STD: 80 kbps, 44100 Hz (R76). -/
  | frameMpegStdB6S0 (prot : BitVec 1) (pad : BitVec 1) (low : BitVec 9)
  /-- FRAME_MPEG_STD_B6_S1. FRAME(6, 1) under MPEG_STD: 80 kbps, 48000 Hz (R76). -/
  | frameMpegStdB6S1 (prot : BitVec 1) (pad : BitVec 1) (low : BitVec 9)
  /-- FRAME_MPEG_STD_B6_S2. FRAME(6, 2) under MPEG_STD: 80 kbps, 32000 Hz (R76). -/
  | frameMpegStdB6S2 (prot : BitVec 1) (pad : BitVec 1) (low : BitVec 9)
  /-- FRAME_MPEG_STD_B7_S0. FRAME(7, 0) under MPEG_STD: 96 kbps, 44100 Hz (R76). -/
  | frameMpegStdB7S0 (prot : BitVec 1) (pad : BitVec 1) (low : BitVec 9)
  /-- FRAME_MPEG_STD_B7_S1. FRAME(7, 1) under MPEG_STD: 96 kbps, 48000 Hz (R76). -/
  | frameMpegStdB7S1 (prot : BitVec 1) (pad : BitVec 1) (low : BitVec 9)
  /-- FRAME_MPEG_STD_B7_S2. FRAME(7, 2) under MPEG_STD: 96 kbps, 32000 Hz (R76). -/
  | frameMpegStdB7S2 (prot : BitVec 1) (pad : BitVec 1) (low : BitVec 9)
  /-- FRAME_MPEG_STD_B8_S0. FRAME(8, 0) under MPEG_STD: 112 kbps, 44100 Hz (R76). -/
  | frameMpegStdB8S0 (prot : BitVec 1) (pad : BitVec 1) (low : BitVec 9)
  /-- FRAME_MPEG_STD_B8_S1. FRAME(8, 1) under MPEG_STD: 112 kbps, 48000 Hz (R76). -/
  | frameMpegStdB8S1 (prot : BitVec 1) (pad : BitVec 1) (low : BitVec 9)
  /-- FRAME_MPEG_STD_B8_S2. FRAME(8, 2) under MPEG_STD: 112 kbps, 32000 Hz (R76). -/
  | frameMpegStdB8S2 (prot : BitVec 1) (pad : BitVec 1) (low : BitVec 9)
  /-- FRAME_MPEG_STD_B9_S0. FRAME(9, 0) under MPEG_STD: 128 kbps, 44100 Hz (R76). -/
  | frameMpegStdB9S0 (prot : BitVec 1) (pad : BitVec 1) (low : BitVec 9)
  /-- FRAME_MPEG_STD_B9_S1. FRAME(9, 1) under MPEG_STD: 128 kbps, 48000 Hz (R76). -/
  | frameMpegStdB9S1 (prot : BitVec 1) (pad : BitVec 1) (low : BitVec 9)
  /-- FRAME_MPEG_STD_B9_S2. FRAME(9, 2) under MPEG_STD: 128 kbps, 32000 Hz (R76). -/
  | frameMpegStdB9S2 (prot : BitVec 1) (pad : BitVec 1) (low : BitVec 9)
  /-- FRAME_MPEG_STD_B10_S0. FRAME(10, 0) under MPEG_STD: 160 kbps, 44100 Hz (R76). -/
  | frameMpegStdB10S0 (prot : BitVec 1) (pad : BitVec 1) (low : BitVec 9)
  /-- FRAME_MPEG_STD_B10_S1. FRAME(10, 1) under MPEG_STD: 160 kbps, 48000 Hz (R76). -/
  | frameMpegStdB10S1 (prot : BitVec 1) (pad : BitVec 1) (low : BitVec 9)
  /-- FRAME_MPEG_STD_B10_S2. FRAME(10, 2) under MPEG_STD: 160 kbps, 32000 Hz (R76). -/
  | frameMpegStdB10S2 (prot : BitVec 1) (pad : BitVec 1) (low : BitVec 9)
  /-- FRAME_MPEG_STD_B11_S0. FRAME(11, 0) under MPEG_STD: 192 kbps, 44100 Hz (R76). -/
  | frameMpegStdB11S0 (prot : BitVec 1) (pad : BitVec 1) (low : BitVec 9)
  /-- FRAME_MPEG_STD_B11_S1. FRAME(11, 1) under MPEG_STD: 192 kbps, 48000 Hz (R76). -/
  | frameMpegStdB11S1 (prot : BitVec 1) (pad : BitVec 1) (low : BitVec 9)
  /-- FRAME_MPEG_STD_B11_S2. FRAME(11, 2) under MPEG_STD: 192 kbps, 32000 Hz (R76). -/
  | frameMpegStdB11S2 (prot : BitVec 1) (pad : BitVec 1) (low : BitVec 9)
  /-- FRAME_MPEG_STD_B12_S0. FRAME(12, 0) under MPEG_STD: 224 kbps, 44100 Hz (R76). -/
  | frameMpegStdB12S0 (prot : BitVec 1) (pad : BitVec 1) (low : BitVec 9)
  /-- FRAME_MPEG_STD_B12_S1. FRAME(12, 1) under MPEG_STD: 224 kbps, 48000 Hz (R76). -/
  | frameMpegStdB12S1 (prot : BitVec 1) (pad : BitVec 1) (low : BitVec 9)
  /-- FRAME_MPEG_STD_B12_S2. FRAME(12, 2) under MPEG_STD: 224 kbps, 32000 Hz (R76). -/
  | frameMpegStdB12S2 (prot : BitVec 1) (pad : BitVec 1) (low : BitVec 9)
  /-- FRAME_MPEG_STD_B13_S0. FRAME(13, 0) under MPEG_STD: 256 kbps, 44100 Hz (R76). -/
  | frameMpegStdB13S0 (prot : BitVec 1) (pad : BitVec 1) (low : BitVec 9)
  /-- FRAME_MPEG_STD_B13_S1. FRAME(13, 1) under MPEG_STD: 256 kbps, 48000 Hz (R76). -/
  | frameMpegStdB13S1 (prot : BitVec 1) (pad : BitVec 1) (low : BitVec 9)
  /-- FRAME_MPEG_STD_B13_S2. FRAME(13, 2) under MPEG_STD: 256 kbps, 32000 Hz (R76). -/
  | frameMpegStdB13S2 (prot : BitVec 1) (pad : BitVec 1) (low : BitVec 9)
  /-- FRAME_MPEG_STD_B14_S0. FRAME(14, 0) under MPEG_STD: 320 kbps, 44100 Hz (R76). -/
  | frameMpegStdB14S0 (prot : BitVec 1) (pad : BitVec 1) (low : BitVec 9)
  /-- FRAME_MPEG_STD_B14_S1. FRAME(14, 1) under MPEG_STD: 320 kbps, 48000 Hz (R76). -/
  | frameMpegStdB14S1 (prot : BitVec 1) (pad : BitVec 1) (low : BitVec 9)
  /-- FRAME_MPEG_STD_B14_S2. FRAME(14, 2) under MPEG_STD: 320 kbps, 32000 Hz (R76). -/
  | frameMpegStdB14S2 (prot : BitVec 1) (pad : BitVec 1) (low : BitVec 9)
  /-- FRAME_DOC_TABLE_B1_S0. FRAME(1, 0) under DOC_TABLE: 32 kbps, 44100 Hz (R76). -/
  | frameDocTableB1S0 (pad : BitVec 1) (low : BitVec 10)
  /-- FRAME_DOC_TABLE_B1_S1. FRAME(1, 1) under DOC_TABLE: 32 kbps, 48000 Hz (R76). -/
  | frameDocTableB1S1 (pad : BitVec 1) (low : BitVec 10)
  /-- FRAME_DOC_TABLE_B1_S2. FRAME(1, 2) under DOC_TABLE: 32 kbps, 32000 Hz (R76). -/
  | frameDocTableB1S2 (pad : BitVec 1) (low : BitVec 10)
  /-- FRAME_DOC_TABLE_B2_S0. FRAME(2, 0) under DOC_TABLE: 40 kbps, 44100 Hz (R76). -/
  | frameDocTableB2S0 (pad : BitVec 1) (low : BitVec 10)
  /-- FRAME_DOC_TABLE_B2_S1. FRAME(2, 1) under DOC_TABLE: 40 kbps, 48000 Hz (R76). -/
  | frameDocTableB2S1 (pad : BitVec 1) (low : BitVec 10)
  /-- FRAME_DOC_TABLE_B2_S2. FRAME(2, 2) under DOC_TABLE: 40 kbps, 32000 Hz (R76). -/
  | frameDocTableB2S2 (pad : BitVec 1) (low : BitVec 10)
  /-- FRAME_DOC_TABLE_B3_S0. FRAME(3, 0) under DOC_TABLE: 48 kbps, 44100 Hz (R76). -/
  | frameDocTableB3S0 (pad : BitVec 1) (low : BitVec 10)
  /-- FRAME_DOC_TABLE_B3_S1. FRAME(3, 1) under DOC_TABLE: 48 kbps, 48000 Hz (R76). -/
  | frameDocTableB3S1 (pad : BitVec 1) (low : BitVec 10)
  /-- FRAME_DOC_TABLE_B3_S2. FRAME(3, 2) under DOC_TABLE: 48 kbps, 32000 Hz (R76). -/
  | frameDocTableB3S2 (pad : BitVec 1) (low : BitVec 10)
  /-- FRAME_DOC_TABLE_B4_S0. FRAME(4, 0) under DOC_TABLE: 56 kbps, 44100 Hz (R76). -/
  | frameDocTableB4S0 (pad : BitVec 1) (low : BitVec 10)
  /-- FRAME_DOC_TABLE_B4_S1. FRAME(4, 1) under DOC_TABLE: 56 kbps, 48000 Hz (R76). -/
  | frameDocTableB4S1 (pad : BitVec 1) (low : BitVec 10)
  /-- FRAME_DOC_TABLE_B4_S2. FRAME(4, 2) under DOC_TABLE: 56 kbps, 32000 Hz (R76). -/
  | frameDocTableB4S2 (pad : BitVec 1) (low : BitVec 10)
  /-- FRAME_DOC_TABLE_B5_S0. FRAME(5, 0) under DOC_TABLE: 64 kbps, 44100 Hz (R76). -/
  | frameDocTableB5S0 (pad : BitVec 1) (low : BitVec 10)
  /-- FRAME_DOC_TABLE_B5_S1. FRAME(5, 1) under DOC_TABLE: 64 kbps, 48000 Hz (R76). -/
  | frameDocTableB5S1 (pad : BitVec 1) (low : BitVec 10)
  /-- FRAME_DOC_TABLE_B5_S2. FRAME(5, 2) under DOC_TABLE: 64 kbps, 32000 Hz (R76). -/
  | frameDocTableB5S2 (pad : BitVec 1) (low : BitVec 10)
  /-- FRAME_DOC_TABLE_B6_S0. FRAME(6, 0) under DOC_TABLE: 80 kbps, 44100 Hz (R76). -/
  | frameDocTableB6S0 (pad : BitVec 1) (low : BitVec 10)
  /-- FRAME_DOC_TABLE_B6_S1. FRAME(6, 1) under DOC_TABLE: 80 kbps, 48000 Hz (R76). -/
  | frameDocTableB6S1 (pad : BitVec 1) (low : BitVec 10)
  /-- FRAME_DOC_TABLE_B6_S2. FRAME(6, 2) under DOC_TABLE: 80 kbps, 32000 Hz (R76). -/
  | frameDocTableB6S2 (pad : BitVec 1) (low : BitVec 10)
  /-- FRAME_DOC_TABLE_B7_S0. FRAME(7, 0) under DOC_TABLE: 96 kbps, 44100 Hz (R76). -/
  | frameDocTableB7S0 (pad : BitVec 1) (low : BitVec 10)
  /-- FRAME_DOC_TABLE_B7_S1. FRAME(7, 1) under DOC_TABLE: 96 kbps, 48000 Hz (R76). -/
  | frameDocTableB7S1 (pad : BitVec 1) (low : BitVec 10)
  /-- FRAME_DOC_TABLE_B7_S2. FRAME(7, 2) under DOC_TABLE: 96 kbps, 32000 Hz (R76). -/
  | frameDocTableB7S2 (pad : BitVec 1) (low : BitVec 10)
  /-- FRAME_DOC_TABLE_B8_S0. FRAME(8, 0) under DOC_TABLE: 112 kbps, 44100 Hz (R76). -/
  | frameDocTableB8S0 (pad : BitVec 1) (low : BitVec 10)
  /-- FRAME_DOC_TABLE_B8_S1. FRAME(8, 1) under DOC_TABLE: 112 kbps, 48000 Hz (R76). -/
  | frameDocTableB8S1 (pad : BitVec 1) (low : BitVec 10)
  /-- FRAME_DOC_TABLE_B8_S2. FRAME(8, 2) under DOC_TABLE: 112 kbps, 32000 Hz (R76). -/
  | frameDocTableB8S2 (pad : BitVec 1) (low : BitVec 10)
  /-- FRAME_DOC_TABLE_B9_S0. FRAME(9, 0) under DOC_TABLE: 128 kbps, 44100 Hz (R76). -/
  | frameDocTableB9S0 (pad : BitVec 1) (low : BitVec 10)
  /-- FRAME_DOC_TABLE_B9_S1. FRAME(9, 1) under DOC_TABLE: 128 kbps, 48000 Hz (R76). -/
  | frameDocTableB9S1 (pad : BitVec 1) (low : BitVec 10)
  /-- FRAME_DOC_TABLE_B9_S2. FRAME(9, 2) under DOC_TABLE: 128 kbps, 32000 Hz (R76). -/
  | frameDocTableB9S2 (pad : BitVec 1) (low : BitVec 10)
  /-- FRAME_DOC_TABLE_B10_S0. FRAME(10, 0) under DOC_TABLE: 160 kbps, 44100 Hz (R76). -/
  | frameDocTableB10S0 (pad : BitVec 1) (low : BitVec 10)
  /-- FRAME_DOC_TABLE_B10_S1. FRAME(10, 1) under DOC_TABLE: 160 kbps, 48000 Hz (R76). -/
  | frameDocTableB10S1 (pad : BitVec 1) (low : BitVec 10)
  /-- FRAME_DOC_TABLE_B10_S2. FRAME(10, 2) under DOC_TABLE: 160 kbps, 32000 Hz (R76). -/
  | frameDocTableB10S2 (pad : BitVec 1) (low : BitVec 10)
  /-- FRAME_DOC_TABLE_B11_S0. FRAME(11, 0) under DOC_TABLE: 192 kbps, 44100 Hz (R76). -/
  | frameDocTableB11S0 (pad : BitVec 1) (low : BitVec 10)
  /-- FRAME_DOC_TABLE_B11_S1. FRAME(11, 1) under DOC_TABLE: 192 kbps, 48000 Hz (R76). -/
  | frameDocTableB11S1 (pad : BitVec 1) (low : BitVec 10)
  /-- FRAME_DOC_TABLE_B11_S2. FRAME(11, 2) under DOC_TABLE: 192 kbps, 32000 Hz (R76). -/
  | frameDocTableB11S2 (pad : BitVec 1) (low : BitVec 10)
  /-- FRAME_DOC_TABLE_B12_S0. FRAME(12, 0) under DOC_TABLE: 224 kbps, 44100 Hz (R76). -/
  | frameDocTableB12S0 (pad : BitVec 1) (low : BitVec 10)
  /-- FRAME_DOC_TABLE_B12_S1. FRAME(12, 1) under DOC_TABLE: 224 kbps, 48000 Hz (R76). -/
  | frameDocTableB12S1 (pad : BitVec 1) (low : BitVec 10)
  /-- FRAME_DOC_TABLE_B12_S2. FRAME(12, 2) under DOC_TABLE: 224 kbps, 32000 Hz (R76). -/
  | frameDocTableB12S2 (pad : BitVec 1) (low : BitVec 10)
  /-- FRAME_DOC_TABLE_B13_S0. FRAME(13, 0) under DOC_TABLE: 256 kbps, 44100 Hz (R76). -/
  | frameDocTableB13S0 (pad : BitVec 1) (low : BitVec 10)
  /-- FRAME_DOC_TABLE_B13_S1. FRAME(13, 1) under DOC_TABLE: 256 kbps, 48000 Hz (R76). -/
  | frameDocTableB13S1 (pad : BitVec 1) (low : BitVec 10)
  /-- FRAME_DOC_TABLE_B13_S2. FRAME(13, 2) under DOC_TABLE: 256 kbps, 32000 Hz (R76). -/
  | frameDocTableB13S2 (pad : BitVec 1) (low : BitVec 10)
  /-- FRAME_DOC_TABLE_B14_S0. FRAME(14, 0) under DOC_TABLE: 320 kbps, 44100 Hz (R76). -/
  | frameDocTableB14S0 (pad : BitVec 1) (low : BitVec 10)
  /-- FRAME_DOC_TABLE_B14_S1. FRAME(14, 1) under DOC_TABLE: 320 kbps, 48000 Hz (R76). -/
  | frameDocTableB14S1 (pad : BitVec 1) (low : BitVec 10)
  /-- FRAME_DOC_TABLE_B14_S2. FRAME(14, 2) under DOC_TABLE: 320 kbps, 32000 Hz (R76). -/
  | frameDocTableB14S2 (pad : BitVec 1) (low : BitVec 10)
  /-- REJECT. Any candidate of class REJECT (R76): the two-class reading of the header. -/
  | reject (w : Word)
  /-- REJ_SYNC. REJ_SYNC: `w[31:21] ≠ 0x7FF` (R77). -/
  | rejSync (sync : BitVec 11) (rest : BitVec 21)
  /-- REJ_VERSION_0. REJ_VERSION: version 0 (R77). -/
  | rejVersion0 (rest : BitVec 19)
  /-- REJ_VERSION_1. REJ_VERSION: version 1 (R77). -/
  | rejVersion1 (rest : BitVec 19)
  /-- REJ_VERSION_2. REJ_VERSION: version 2 (R77). -/
  | rejVersion2 (rest : BitVec 19)
  /-- REJ_LAYER_0. REJ_LAYER: layer 0 (R77). -/
  | rejLayer0 (rest : BitVec 17)
  /-- REJ_LAYER_2. REJ_LAYER: layer 2 (R77). -/
  | rejLayer2 (rest : BitVec 17)
  /-- REJ_LAYER_3. REJ_LAYER: layer 3 (R77). -/
  | rejLayer3 (rest : BitVec 17)
  /-- REJ_FREE_MPEG_STD. REJ_FREE under MPEG_STD: bitrate index 0 (R77). -/
  | rejFreeMpegStd (prot : BitVec 1) (rest : BitVec 12)
  /-- REJ_BR15_MPEG_STD. REJ_BR15 under MPEG_STD: bitrate index 15 (R77). -/
  | rejBr15MpegStd (prot : BitVec 1) (rest : BitVec 12)
  /-- REJ_SR3_MPEG_STD. REJ_SR3 under MPEG_STD: sample-rate index 3, bitrate index 1 to 14 (R77). -/
  | rejSr3MpegStd (prot : BitVec 1) (bri : BitVec 4) (rest : BitVec 10)
  /-- REJ_FREE_DOC_TABLE. REJ_FREE under DOC_TABLE: bitrate index 0 (R77). -/
  | rejFreeDocTable (rest : BitVec 13)
  /-- REJ_BR15_DOC_TABLE. REJ_BR15 under DOC_TABLE: bitrate index 15 (R77). -/
  | rejBr15DocTable (rest : BitVec 13)
  /-- REJ_SR3_DOC_TABLE. REJ_SR3 under DOC_TABLE: sample-rate index 3, bitrate index 1 to 14 (R77). -/
  | rejSr3DocTable (bri : BitVec 4) (rest : BitVec 11)
  /-- ID3V2_MARK. The leading tag header at offset 0, with its four size bytes (R80, R130, R131). -/
  | id3v2Mark (b6 : Byte) (b7 : Byte) (b8 : Byte) (b9 : Byte)
  /-- ID3V1_MARK. The trailing tag marker at offset LEN − 128 (R81, R135). -/
  | id3v1Mark
  /-- RD_CTRL. Read of CTRL, offset 0x000 (R101). -/
  | rdCtrl
  /-- RD_STATUS. Read of STATUS, offset 0x004 (R101). -/
  | rdStatus
  /-- RD_LEN. Read of LEN, offset 0x008 (R101). -/
  | rdLen
  /-- RD_COUNT. Read of COUNT, offset 0x00C (R101). -/
  | rdCount
  /-- RD_START_POS. Read of START_POS, offset 0x010 (R101). -/
  | rdStartPos
  /-- RD_END_BOUND. Read of END_BOUND, offset 0x014 (R101). -/
  | rdEndBound
  /-- RD_POS. Read of POS, offset 0x018 (R101). -/
  | rdPos
  /-- RD_CFG. Read of CFG, offset 0x01C (R101). -/
  | rdCfg
  /-- RD_BUFMAX. Read of BUFMAX, offset 0x020 (R101). -/
  | rdBufmax
  /-- RD_RSVD. Read of a reserved register offset 0x24 to 0xFFC (R101). -/
  | rdRsvd (off : BitVec 12)
  /-- WR_CTRL. Write of CTRL (R102, R103). -/
  | wrCtrl (v : Word)
  /-- WR_STATUS. Write of STATUS (R104). -/
  | wrStatus (v : Word)
  /-- WR_LEN. Write of LEN (R105). -/
  | wrLen (v : Word)
  /-- WR_RO_COUNT. Write of the read-only COUNT, offset 0x00C (R106). -/
  | wrRoCount (v : Word)
  /-- WR_RO_START_POS. Write of the read-only START_POS, offset 0x010 (R106). -/
  | wrRoStartPos (v : Word)
  /-- WR_RO_END_BOUND. Write of the read-only END_BOUND, offset 0x014 (R106). -/
  | wrRoEndBound (v : Word)
  /-- WR_RO_POS. Write of the read-only POS, offset 0x018 (R106). -/
  | wrRoPos (v : Word)
  /-- WR_RO_CFG. Write of the read-only CFG, offset 0x01C (R106). -/
  | wrRoCfg (v : Word)
  /-- WR_RO_BUFMAX. Write of the read-only BUFMAX, offset 0x020 (R106). -/
  | wrRoBufmax (v : Word)
  /-- WR_RSVD. Write of a reserved register offset 0x24 to 0xFFC (R106). -/
  | wrRsvd (off : BitVec 12) (v : Word)
  /-- BUF_WR. Write of one buffer byte (R107). -/
  | bufWr (off : Word) (b : Byte)
  /-- BUF_RD. Read of one buffer byte (R108). -/
  | bufRd (off : Word)
  /-- BAD_REG. Any access to the register window that is not an aligned 32-bit one (R109). -/
  | badReg (dir : Dir) (off : BitVec 12) (width : Nat) (v : Word)
deriving DecidableEq, Repr

end Sys2Proof
end

