-- ==== Sys2Proof/WellFormed.lean ====
section
/-! DEFINITION. Which instructions the formats of spec/30_encoding.md can write, under given parameters.
An HDR32 row that belongs to one layout is well formed under that layout only (R72, R73, R76). -/

namespace Sys2Proof

/-- The mask of R76: sync, version, layer, bitrate index and sample-rate index of a layout. -/
def frameMask : HdrLayout → Word
  | .mpegStd => 0xFFFEFC00
  | .docTable => 0xFFFFF800

/-- The match word of FRAME(b, s) in a layout (R76). -/
def frameMatch (l : HdrLayout) (b s : Nat) : Word :=
  match l with
  | .mpegStd => 0xFFFA0000 ||| (BitVec.ofNat 32 b <<< 12) ||| (BitVec.ofNat 32 s <<< 10)
  | .docTable => 0xFFFA0000 ||| (BitVec.ofNat 32 b <<< 13) ||| (BitVec.ofNat 32 s <<< 11)

/-- The 42 index pairs (b, s) with b in 1 to 14 and s in 0 to 2 (R76). -/
def frameIndices : List (Nat × Nat) :=
  (List.range 14).flatMap fun b => (List.range 3).map fun s => (b + 1, s)

/-- A word is of class REJECT: it matches none of the 42 FRAME classes of the layout (R76). -/
def classReject (l : HdrLayout) (w : Word) : Bool :=
  frameIndices.all fun p => w &&& frameMask l != frameMatch l p.1 p.2

/-- The offset of a reserved register: a multiple of 4 in 0x24 to 0xFFC (R29, R82). -/
def reservedOffset (off : BitVec 12) : Bool :=
  off.toNat % 4 == 0 && decide (0x24 ≤ off.toNat)

/-- What the encoding of an instruction requires of its operands and of the parameters. -/
def Instr.WellFormed (c : Config) : Instr → Bool
  | .frameMpegStdB1S0 _ _ _ => c.hdrLayout == .mpegStd
  | .frameMpegStdB1S1 _ _ _ => c.hdrLayout == .mpegStd
  | .frameMpegStdB1S2 _ _ _ => c.hdrLayout == .mpegStd
  | .frameMpegStdB2S0 _ _ _ => c.hdrLayout == .mpegStd
  | .frameMpegStdB2S1 _ _ _ => c.hdrLayout == .mpegStd
  | .frameMpegStdB2S2 _ _ _ => c.hdrLayout == .mpegStd
  | .frameMpegStdB3S0 _ _ _ => c.hdrLayout == .mpegStd
  | .frameMpegStdB3S1 _ _ _ => c.hdrLayout == .mpegStd
  | .frameMpegStdB3S2 _ _ _ => c.hdrLayout == .mpegStd
  | .frameMpegStdB4S0 _ _ _ => c.hdrLayout == .mpegStd
  | .frameMpegStdB4S1 _ _ _ => c.hdrLayout == .mpegStd
  | .frameMpegStdB4S2 _ _ _ => c.hdrLayout == .mpegStd
  | .frameMpegStdB5S0 _ _ _ => c.hdrLayout == .mpegStd
  | .frameMpegStdB5S1 _ _ _ => c.hdrLayout == .mpegStd
  | .frameMpegStdB5S2 _ _ _ => c.hdrLayout == .mpegStd
  | .frameMpegStdB6S0 _ _ _ => c.hdrLayout == .mpegStd
  | .frameMpegStdB6S1 _ _ _ => c.hdrLayout == .mpegStd
  | .frameMpegStdB6S2 _ _ _ => c.hdrLayout == .mpegStd
  | .frameMpegStdB7S0 _ _ _ => c.hdrLayout == .mpegStd
  | .frameMpegStdB7S1 _ _ _ => c.hdrLayout == .mpegStd
  | .frameMpegStdB7S2 _ _ _ => c.hdrLayout == .mpegStd
  | .frameMpegStdB8S0 _ _ _ => c.hdrLayout == .mpegStd
  | .frameMpegStdB8S1 _ _ _ => c.hdrLayout == .mpegStd
  | .frameMpegStdB8S2 _ _ _ => c.hdrLayout == .mpegStd
  | .frameMpegStdB9S0 _ _ _ => c.hdrLayout == .mpegStd
  | .frameMpegStdB9S1 _ _ _ => c.hdrLayout == .mpegStd
  | .frameMpegStdB9S2 _ _ _ => c.hdrLayout == .mpegStd
  | .frameMpegStdB10S0 _ _ _ => c.hdrLayout == .mpegStd
  | .frameMpegStdB10S1 _ _ _ => c.hdrLayout == .mpegStd
  | .frameMpegStdB10S2 _ _ _ => c.hdrLayout == .mpegStd
  | .frameMpegStdB11S0 _ _ _ => c.hdrLayout == .mpegStd
  | .frameMpegStdB11S1 _ _ _ => c.hdrLayout == .mpegStd
  | .frameMpegStdB11S2 _ _ _ => c.hdrLayout == .mpegStd
  | .frameMpegStdB12S0 _ _ _ => c.hdrLayout == .mpegStd
  | .frameMpegStdB12S1 _ _ _ => c.hdrLayout == .mpegStd
  | .frameMpegStdB12S2 _ _ _ => c.hdrLayout == .mpegStd
  | .frameMpegStdB13S0 _ _ _ => c.hdrLayout == .mpegStd
  | .frameMpegStdB13S1 _ _ _ => c.hdrLayout == .mpegStd
  | .frameMpegStdB13S2 _ _ _ => c.hdrLayout == .mpegStd
  | .frameMpegStdB14S0 _ _ _ => c.hdrLayout == .mpegStd
  | .frameMpegStdB14S1 _ _ _ => c.hdrLayout == .mpegStd
  | .frameMpegStdB14S2 _ _ _ => c.hdrLayout == .mpegStd
  | .frameDocTableB1S0 _ _ => c.hdrLayout == .docTable
  | .frameDocTableB1S1 _ _ => c.hdrLayout == .docTable
  | .frameDocTableB1S2 _ _ => c.hdrLayout == .docTable
  | .frameDocTableB2S0 _ _ => c.hdrLayout == .docTable
  | .frameDocTableB2S1 _ _ => c.hdrLayout == .docTable
  | .frameDocTableB2S2 _ _ => c.hdrLayout == .docTable
  | .frameDocTableB3S0 _ _ => c.hdrLayout == .docTable
  | .frameDocTableB3S1 _ _ => c.hdrLayout == .docTable
  | .frameDocTableB3S2 _ _ => c.hdrLayout == .docTable
  | .frameDocTableB4S0 _ _ => c.hdrLayout == .docTable
  | .frameDocTableB4S1 _ _ => c.hdrLayout == .docTable
  | .frameDocTableB4S2 _ _ => c.hdrLayout == .docTable
  | .frameDocTableB5S0 _ _ => c.hdrLayout == .docTable
  | .frameDocTableB5S1 _ _ => c.hdrLayout == .docTable
  | .frameDocTableB5S2 _ _ => c.hdrLayout == .docTable
  | .frameDocTableB6S0 _ _ => c.hdrLayout == .docTable
  | .frameDocTableB6S1 _ _ => c.hdrLayout == .docTable
  | .frameDocTableB6S2 _ _ => c.hdrLayout == .docTable
  | .frameDocTableB7S0 _ _ => c.hdrLayout == .docTable
  | .frameDocTableB7S1 _ _ => c.hdrLayout == .docTable
  | .frameDocTableB7S2 _ _ => c.hdrLayout == .docTable
  | .frameDocTableB8S0 _ _ => c.hdrLayout == .docTable
  | .frameDocTableB8S1 _ _ => c.hdrLayout == .docTable
  | .frameDocTableB8S2 _ _ => c.hdrLayout == .docTable
  | .frameDocTableB9S0 _ _ => c.hdrLayout == .docTable
  | .frameDocTableB9S1 _ _ => c.hdrLayout == .docTable
  | .frameDocTableB9S2 _ _ => c.hdrLayout == .docTable
  | .frameDocTableB10S0 _ _ => c.hdrLayout == .docTable
  | .frameDocTableB10S1 _ _ => c.hdrLayout == .docTable
  | .frameDocTableB10S2 _ _ => c.hdrLayout == .docTable
  | .frameDocTableB11S0 _ _ => c.hdrLayout == .docTable
  | .frameDocTableB11S1 _ _ => c.hdrLayout == .docTable
  | .frameDocTableB11S2 _ _ => c.hdrLayout == .docTable
  | .frameDocTableB12S0 _ _ => c.hdrLayout == .docTable
  | .frameDocTableB12S1 _ _ => c.hdrLayout == .docTable
  | .frameDocTableB12S2 _ _ => c.hdrLayout == .docTable
  | .frameDocTableB13S0 _ _ => c.hdrLayout == .docTable
  | .frameDocTableB13S1 _ _ => c.hdrLayout == .docTable
  | .frameDocTableB13S2 _ _ => c.hdrLayout == .docTable
  | .frameDocTableB14S0 _ _ => c.hdrLayout == .docTable
  | .frameDocTableB14S1 _ _ => c.hdrLayout == .docTable
  | .frameDocTableB14S2 _ _ => c.hdrLayout == .docTable
  | .reject w => classReject c.hdrLayout w
  | .rejSync sync _ => sync != 0x7FF#11
  | .rejVersion0 _ => true
  | .rejVersion1 _ => true
  | .rejVersion2 _ => true
  | .rejLayer0 _ => true
  | .rejLayer2 _ => true
  | .rejLayer3 _ => true
  | .rejFreeMpegStd _ _ => c.hdrLayout == .mpegStd
  | .rejBr15MpegStd _ _ => c.hdrLayout == .mpegStd
  | .rejSr3MpegStd _ bri _ => c.hdrLayout == .mpegStd && bri != 0#4 && bri != 15#4
  | .rejFreeDocTable _ => c.hdrLayout == .docTable
  | .rejBr15DocTable _ => c.hdrLayout == .docTable
  | .rejSr3DocTable bri _ => c.hdrLayout == .docTable && bri != 0#4 && bri != 15#4
  | .id3v2Mark _ _ _ _ => true
  | .id3v1Mark => true
  | .rdCtrl => true
  | .rdStatus => true
  | .rdLen => true
  | .rdCount => true
  | .rdStartPos => true
  | .rdEndBound => true
  | .rdPos => true
  | .rdCfg => true
  | .rdBufmax => true
  | .rdRsvd off => reservedOffset off
  | .wrCtrl _ => true
  | .wrStatus _ => true
  | .wrLen _ => true
  | .wrRoCount _ => true
  | .wrRoStartPos _ => true
  | .wrRoEndBound _ => true
  | .wrRoPos _ => true
  | .wrRoCfg _ => true
  | .wrRoBufmax _ => true
  | .wrRsvd off _ => reservedOffset off
  | .bufWr off _ => decide (off.toNat < c.bufMax.toNat)
  | .bufRd off => decide (off.toNat < c.bufMax.toNat)
  | .badReg _ off width _ => width != 32 || off.toNat % 4 != 0

end Sys2Proof
end

