-- ==== Sys2Proof/Decode.lean ====
section
/-! DEFINITION. The decoder, total on every input and rejecting by name, and after it the encoder. Three
formats are read out of BUFMEM (HDR32, ID3V2_HDR, ID3V1: spec/30_encoding.md R70-R81) and two come over
the bus (REG32, BUF8: R82, R83). -/

namespace Sys2Proof

/-- Why a bus access is no instruction of this block. -/
inductive BusReject where
  /-- The bus address lies outside both windows: not an access to this block (R58). -/
  | outsideWindows
  /-- A buffer-window access that is not 8 bits wide: not an access of this block (R110). -/
  | bufAccessNotByte (width : Nat)
deriving DecidableEq, Repr

/-- Why the decoder gives no instruction. -/
inductive Reject where
  /-- The bytes do not begin with a tag marker (R130, R135). -/
  | notAMark
  /-- The bus access is none of this block. -/
  | bus (r : BusReject)
deriving DecidableEq, Repr

/-! ## HDR32 -/

/-- The fields the header decoder extracts (R155). -/
structure HdrFields where
  sync : BitVec 11
  version : BitVec 2
  layer : BitVec 2
  bri : BitVec 4
  sri : BitVec 2
  pad : BitVec 1
deriving DecidableEq, Repr

/-- Field extraction (R155): `w.extractLsb' lo n` is the field of `n` bits whose lowest is bit `lo`. -/
def hdrFields (l : HdrLayout) (w : Word) : HdrFields :=
  match l with
  | .mpegStd =>
    { sync := w.extractLsb' 21 11, version := w.extractLsb' 19 2, layer := w.extractLsb' 17 2
      bri := w.extractLsb' 12 4, sri := w.extractLsb' 10 2, pad := w.extractLsb' 9 1 }
  | .docTable =>
    { sync := w.extractLsb' 21 11, version := w.extractLsb' 19 2, layer := w.extractLsb' 17 2
      bri := w.extractLsb' 13 4, sri := w.extractLsb' 11 2, pad := w.extractLsb' 10 1 }

/-- The validity signal V (R165). -/
def HdrFields.valid (f : HdrFields) : Bool :=
  f.sync == 0x7FF#11 && f.version == 3#2 && f.layer == 1#2 &&
    f.bri != 0#4 && f.bri != 15#4 && f.sri != 3#2

/-- The FRAME row of a bitrate and a sample-rate index under MPEG_STD; none where an index is not one of
the 42 pairs (R76). -/
def frameMpegStd (bri : BitVec 4) (sri : BitVec 2) (prot pad : BitVec 1) (low : BitVec 9) : Option Instr :=
  match bri.toNat, sri.toNat with
  | 1, 0 => some (.frameMpegStdB1S0 prot pad low)
  | 1, 1 => some (.frameMpegStdB1S1 prot pad low)
  | 1, 2 => some (.frameMpegStdB1S2 prot pad low)
  | 2, 0 => some (.frameMpegStdB2S0 prot pad low)
  | 2, 1 => some (.frameMpegStdB2S1 prot pad low)
  | 2, 2 => some (.frameMpegStdB2S2 prot pad low)
  | 3, 0 => some (.frameMpegStdB3S0 prot pad low)
  | 3, 1 => some (.frameMpegStdB3S1 prot pad low)
  | 3, 2 => some (.frameMpegStdB3S2 prot pad low)
  | 4, 0 => some (.frameMpegStdB4S0 prot pad low)
  | 4, 1 => some (.frameMpegStdB4S1 prot pad low)
  | 4, 2 => some (.frameMpegStdB4S2 prot pad low)
  | 5, 0 => some (.frameMpegStdB5S0 prot pad low)
  | 5, 1 => some (.frameMpegStdB5S1 prot pad low)
  | 5, 2 => some (.frameMpegStdB5S2 prot pad low)
  | 6, 0 => some (.frameMpegStdB6S0 prot pad low)
  | 6, 1 => some (.frameMpegStdB6S1 prot pad low)
  | 6, 2 => some (.frameMpegStdB6S2 prot pad low)
  | 7, 0 => some (.frameMpegStdB7S0 prot pad low)
  | 7, 1 => some (.frameMpegStdB7S1 prot pad low)
  | 7, 2 => some (.frameMpegStdB7S2 prot pad low)
  | 8, 0 => some (.frameMpegStdB8S0 prot pad low)
  | 8, 1 => some (.frameMpegStdB8S1 prot pad low)
  | 8, 2 => some (.frameMpegStdB8S2 prot pad low)
  | 9, 0 => some (.frameMpegStdB9S0 prot pad low)
  | 9, 1 => some (.frameMpegStdB9S1 prot pad low)
  | 9, 2 => some (.frameMpegStdB9S2 prot pad low)
  | 10, 0 => some (.frameMpegStdB10S0 prot pad low)
  | 10, 1 => some (.frameMpegStdB10S1 prot pad low)
  | 10, 2 => some (.frameMpegStdB10S2 prot pad low)
  | 11, 0 => some (.frameMpegStdB11S0 prot pad low)
  | 11, 1 => some (.frameMpegStdB11S1 prot pad low)
  | 11, 2 => some (.frameMpegStdB11S2 prot pad low)
  | 12, 0 => some (.frameMpegStdB12S0 prot pad low)
  | 12, 1 => some (.frameMpegStdB12S1 prot pad low)
  | 12, 2 => some (.frameMpegStdB12S2 prot pad low)
  | 13, 0 => some (.frameMpegStdB13S0 prot pad low)
  | 13, 1 => some (.frameMpegStdB13S1 prot pad low)
  | 13, 2 => some (.frameMpegStdB13S2 prot pad low)
  | 14, 0 => some (.frameMpegStdB14S0 prot pad low)
  | 14, 1 => some (.frameMpegStdB14S1 prot pad low)
  | 14, 2 => some (.frameMpegStdB14S2 prot pad low)
  | _, _ => none

/-- The FRAME row of a bitrate and a sample-rate index under DOC_TABLE; none where an index is not one of
the 42 pairs (R76). -/
def frameDocTable (bri : BitVec 4) (sri : BitVec 2) (pad : BitVec 1) (low : BitVec 10) : Option Instr :=
  match bri.toNat, sri.toNat with
  | 1, 0 => some (.frameDocTableB1S0 pad low)
  | 1, 1 => some (.frameDocTableB1S1 pad low)
  | 1, 2 => some (.frameDocTableB1S2 pad low)
  | 2, 0 => some (.frameDocTableB2S0 pad low)
  | 2, 1 => some (.frameDocTableB2S1 pad low)
  | 2, 2 => some (.frameDocTableB2S2 pad low)
  | 3, 0 => some (.frameDocTableB3S0 pad low)
  | 3, 1 => some (.frameDocTableB3S1 pad low)
  | 3, 2 => some (.frameDocTableB3S2 pad low)
  | 4, 0 => some (.frameDocTableB4S0 pad low)
  | 4, 1 => some (.frameDocTableB4S1 pad low)
  | 4, 2 => some (.frameDocTableB4S2 pad low)
  | 5, 0 => some (.frameDocTableB5S0 pad low)
  | 5, 1 => some (.frameDocTableB5S1 pad low)
  | 5, 2 => some (.frameDocTableB5S2 pad low)
  | 6, 0 => some (.frameDocTableB6S0 pad low)
  | 6, 1 => some (.frameDocTableB6S1 pad low)
  | 6, 2 => some (.frameDocTableB6S2 pad low)
  | 7, 0 => some (.frameDocTableB7S0 pad low)
  | 7, 1 => some (.frameDocTableB7S1 pad low)
  | 7, 2 => some (.frameDocTableB7S2 pad low)
  | 8, 0 => some (.frameDocTableB8S0 pad low)
  | 8, 1 => some (.frameDocTableB8S1 pad low)
  | 8, 2 => some (.frameDocTableB8S2 pad low)
  | 9, 0 => some (.frameDocTableB9S0 pad low)
  | 9, 1 => some (.frameDocTableB9S1 pad low)
  | 9, 2 => some (.frameDocTableB9S2 pad low)
  | 10, 0 => some (.frameDocTableB10S0 pad low)
  | 10, 1 => some (.frameDocTableB10S1 pad low)
  | 10, 2 => some (.frameDocTableB10S2 pad low)
  | 11, 0 => some (.frameDocTableB11S0 pad low)
  | 11, 1 => some (.frameDocTableB11S1 pad low)
  | 11, 2 => some (.frameDocTableB11S2 pad low)
  | 12, 0 => some (.frameDocTableB12S0 pad low)
  | 12, 1 => some (.frameDocTableB12S1 pad low)
  | 12, 2 => some (.frameDocTableB12S2 pad low)
  | 13, 0 => some (.frameDocTableB13S0 pad low)
  | 13, 1 => some (.frameDocTableB13S1 pad low)
  | 13, 2 => some (.frameDocTableB13S2 pad low)
  | 14, 0 => some (.frameDocTableB14S0 pad low)
  | 14, 1 => some (.frameDocTableB14S1 pad low)
  | 14, 2 => some (.frameDocTableB14S2 pad low)
  | _, _ => none

/-- The class FRAME(b, s) of a FRAME row, with its layout; none for every other row (R76). -/
def Instr.frameRow : Instr → Option (HdrLayout × Nat × Nat)
  | .frameMpegStdB1S0 _ _ _ => some (.mpegStd, 1, 0)
  | .frameMpegStdB1S1 _ _ _ => some (.mpegStd, 1, 1)
  | .frameMpegStdB1S2 _ _ _ => some (.mpegStd, 1, 2)
  | .frameMpegStdB2S0 _ _ _ => some (.mpegStd, 2, 0)
  | .frameMpegStdB2S1 _ _ _ => some (.mpegStd, 2, 1)
  | .frameMpegStdB2S2 _ _ _ => some (.mpegStd, 2, 2)
  | .frameMpegStdB3S0 _ _ _ => some (.mpegStd, 3, 0)
  | .frameMpegStdB3S1 _ _ _ => some (.mpegStd, 3, 1)
  | .frameMpegStdB3S2 _ _ _ => some (.mpegStd, 3, 2)
  | .frameMpegStdB4S0 _ _ _ => some (.mpegStd, 4, 0)
  | .frameMpegStdB4S1 _ _ _ => some (.mpegStd, 4, 1)
  | .frameMpegStdB4S2 _ _ _ => some (.mpegStd, 4, 2)
  | .frameMpegStdB5S0 _ _ _ => some (.mpegStd, 5, 0)
  | .frameMpegStdB5S1 _ _ _ => some (.mpegStd, 5, 1)
  | .frameMpegStdB5S2 _ _ _ => some (.mpegStd, 5, 2)
  | .frameMpegStdB6S0 _ _ _ => some (.mpegStd, 6, 0)
  | .frameMpegStdB6S1 _ _ _ => some (.mpegStd, 6, 1)
  | .frameMpegStdB6S2 _ _ _ => some (.mpegStd, 6, 2)
  | .frameMpegStdB7S0 _ _ _ => some (.mpegStd, 7, 0)
  | .frameMpegStdB7S1 _ _ _ => some (.mpegStd, 7, 1)
  | .frameMpegStdB7S2 _ _ _ => some (.mpegStd, 7, 2)
  | .frameMpegStdB8S0 _ _ _ => some (.mpegStd, 8, 0)
  | .frameMpegStdB8S1 _ _ _ => some (.mpegStd, 8, 1)
  | .frameMpegStdB8S2 _ _ _ => some (.mpegStd, 8, 2)
  | .frameMpegStdB9S0 _ _ _ => some (.mpegStd, 9, 0)
  | .frameMpegStdB9S1 _ _ _ => some (.mpegStd, 9, 1)
  | .frameMpegStdB9S2 _ _ _ => some (.mpegStd, 9, 2)
  | .frameMpegStdB10S0 _ _ _ => some (.mpegStd, 10, 0)
  | .frameMpegStdB10S1 _ _ _ => some (.mpegStd, 10, 1)
  | .frameMpegStdB10S2 _ _ _ => some (.mpegStd, 10, 2)
  | .frameMpegStdB11S0 _ _ _ => some (.mpegStd, 11, 0)
  | .frameMpegStdB11S1 _ _ _ => some (.mpegStd, 11, 1)
  | .frameMpegStdB11S2 _ _ _ => some (.mpegStd, 11, 2)
  | .frameMpegStdB12S0 _ _ _ => some (.mpegStd, 12, 0)
  | .frameMpegStdB12S1 _ _ _ => some (.mpegStd, 12, 1)
  | .frameMpegStdB12S2 _ _ _ => some (.mpegStd, 12, 2)
  | .frameMpegStdB13S0 _ _ _ => some (.mpegStd, 13, 0)
  | .frameMpegStdB13S1 _ _ _ => some (.mpegStd, 13, 1)
  | .frameMpegStdB13S2 _ _ _ => some (.mpegStd, 13, 2)
  | .frameMpegStdB14S0 _ _ _ => some (.mpegStd, 14, 0)
  | .frameMpegStdB14S1 _ _ _ => some (.mpegStd, 14, 1)
  | .frameMpegStdB14S2 _ _ _ => some (.mpegStd, 14, 2)
  | .frameDocTableB1S0 _ _ => some (.docTable, 1, 0)
  | .frameDocTableB1S1 _ _ => some (.docTable, 1, 1)
  | .frameDocTableB1S2 _ _ => some (.docTable, 1, 2)
  | .frameDocTableB2S0 _ _ => some (.docTable, 2, 0)
  | .frameDocTableB2S1 _ _ => some (.docTable, 2, 1)
  | .frameDocTableB2S2 _ _ => some (.docTable, 2, 2)
  | .frameDocTableB3S0 _ _ => some (.docTable, 3, 0)
  | .frameDocTableB3S1 _ _ => some (.docTable, 3, 1)
  | .frameDocTableB3S2 _ _ => some (.docTable, 3, 2)
  | .frameDocTableB4S0 _ _ => some (.docTable, 4, 0)
  | .frameDocTableB4S1 _ _ => some (.docTable, 4, 1)
  | .frameDocTableB4S2 _ _ => some (.docTable, 4, 2)
  | .frameDocTableB5S0 _ _ => some (.docTable, 5, 0)
  | .frameDocTableB5S1 _ _ => some (.docTable, 5, 1)
  | .frameDocTableB5S2 _ _ => some (.docTable, 5, 2)
  | .frameDocTableB6S0 _ _ => some (.docTable, 6, 0)
  | .frameDocTableB6S1 _ _ => some (.docTable, 6, 1)
  | .frameDocTableB6S2 _ _ => some (.docTable, 6, 2)
  | .frameDocTableB7S0 _ _ => some (.docTable, 7, 0)
  | .frameDocTableB7S1 _ _ => some (.docTable, 7, 1)
  | .frameDocTableB7S2 _ _ => some (.docTable, 7, 2)
  | .frameDocTableB8S0 _ _ => some (.docTable, 8, 0)
  | .frameDocTableB8S1 _ _ => some (.docTable, 8, 1)
  | .frameDocTableB8S2 _ _ => some (.docTable, 8, 2)
  | .frameDocTableB9S0 _ _ => some (.docTable, 9, 0)
  | .frameDocTableB9S1 _ _ => some (.docTable, 9, 1)
  | .frameDocTableB9S2 _ _ => some (.docTable, 9, 2)
  | .frameDocTableB10S0 _ _ => some (.docTable, 10, 0)
  | .frameDocTableB10S1 _ _ => some (.docTable, 10, 1)
  | .frameDocTableB10S2 _ _ => some (.docTable, 10, 2)
  | .frameDocTableB11S0 _ _ => some (.docTable, 11, 0)
  | .frameDocTableB11S1 _ _ => some (.docTable, 11, 1)
  | .frameDocTableB11S2 _ _ => some (.docTable, 11, 2)
  | .frameDocTableB12S0 _ _ => some (.docTable, 12, 0)
  | .frameDocTableB12S1 _ _ => some (.docTable, 12, 1)
  | .frameDocTableB12S2 _ _ => some (.docTable, 12, 2)
  | .frameDocTableB13S0 _ _ => some (.docTable, 13, 0)
  | .frameDocTableB13S1 _ _ => some (.docTable, 13, 1)
  | .frameDocTableB13S2 _ _ => some (.docTable, 13, 2)
  | .frameDocTableB14S0 _ _ => some (.docTable, 14, 0)
  | .frameDocTableB14S1 _ _ => some (.docTable, 14, 1)
  | .frameDocTableB14S2 _ _ => some (.docTable, 14, 2)
  | .reject _ => none
  | .rejSync _ _ => none
  | .rejVersion0 _ => none
  | .rejVersion1 _ => none
  | .rejVersion2 _ => none
  | .rejLayer0 _ => none
  | .rejLayer2 _ => none
  | .rejLayer3 _ => none
  | .rejFreeMpegStd _ _ => none
  | .rejBr15MpegStd _ _ => none
  | .rejSr3MpegStd _ _ _ => none
  | .rejFreeDocTable _ => none
  | .rejBr15DocTable _ => none
  | .rejSr3DocTable _ _ => none
  | .id3v2Mark _ _ _ _ => none
  | .id3v1Mark => none
  | .rdCtrl => none
  | .rdStatus => none
  | .rdLen => none
  | .rdCount => none
  | .rdStartPos => none
  | .rdEndBound => none
  | .rdPos => none
  | .rdCfg => none
  | .rdBufmax => none
  | .rdRsvd _ => none
  | .wrCtrl _ => none
  | .wrStatus _ => none
  | .wrLen _ => none
  | .wrRoCount _ => none
  | .wrRoStartPos _ => none
  | .wrRoEndBound _ => none
  | .wrRoPos _ => none
  | .wrRoCfg _ => none
  | .wrRoBufmax _ => none
  | .wrRsvd _ _ => none
  | .bufWr _ _ => none
  | .bufRd _ => none
  | .badReg _ _ _ _ => none

/-- The row of a word whose sync, version and layer are legal, under MPEG_STD (R72, R77). -/
def decodeMpegStd (w : Word) : Instr :=
  let f := hdrFields .mpegStd w
  let prot := w.extractLsb' 16 1
  if f.bri = 0#4 then .rejFreeMpegStd prot (w.extractLsb' 0 12)
  else if f.bri = 15#4 then .rejBr15MpegStd prot (w.extractLsb' 0 12)
  else if f.sri = 3#2 then .rejSr3MpegStd prot f.bri (w.extractLsb' 0 10)
  else (frameMpegStd f.bri f.sri prot f.pad (w.extractLsb' 0 9)).getD (.reject w)

/-- The row of a word whose sync, version and layer are legal, under DOC_TABLE (R73, R77). -/
def decodeDocTable (w : Word) : Instr :=
  let f := hdrFields .docTable w
  if f.bri = 0#4 then .rejFreeDocTable (w.extractLsb' 0 13)
  else if f.bri = 15#4 then .rejBr15DocTable (w.extractLsb' 0 13)
  else if f.sri = 3#2 then .rejSr3DocTable f.bri (w.extractLsb' 0 11)
  else (frameDocTable f.bri f.sri f.pad (w.extractLsb' 0 10)).getD (.reject w)

/-- The row of a candidate word (R76, R77). The named sub-cases of rejection are tried in the order in
which the table's conditions exclude one another: sync, version, layer, bitrate index, sample-rate
index. They leave nothing for the row REJECT, which is the last resort here (log 9). -/
def decodeHdr (l : HdrLayout) (w : Word) : Instr :=
  let f := hdrFields l w
  if f.sync ≠ 0x7FF#11 then .rejSync f.sync (w.extractLsb' 0 21)
  else if f.version = 0#2 then .rejVersion0 (w.extractLsb' 0 19)
  else if f.version = 1#2 then .rejVersion1 (w.extractLsb' 0 19)
  else if f.version = 2#2 then .rejVersion2 (w.extractLsb' 0 19)
  else if f.layer = 0#2 then .rejLayer0 (w.extractLsb' 0 17)
  else if f.layer = 2#2 then .rejLayer2 (w.extractLsb' 0 17)
  else if f.layer = 3#2 then .rejLayer3 (w.extractLsb' 0 17)
  else
    match l with
    | .mpegStd => decodeMpegStd w
    | .docTable => decodeDocTable w

/-- A word assembled from four bytes, the first one most significant (R53, R151). -/
def wordOfBytes (b0 b1 b2 b3 : Byte) : Word := b0 ++ b1 ++ b2 ++ b3

/-! ## Tags -/

/-- The marker "ID3" (R12, R130). -/
def isId3v2Mark (m0 m1 m2 : Byte) : Bool := m0 == 0x49#8 && m1 == 0x44#8 && m2 == 0x33#8

/-- The marker "TAG" (R12, R135). -/
def isId3v1Mark (m0 m1 m2 : Byte) : Bool := m0 == 0x54#8 && m1 == 0x41#8 && m2 == 0x47#8

/-- ID3V2_HDR (R80): ten bytes, of which bytes 3 to 5 are not read. -/
def decodeId3v2 : List Byte → Except Reject Instr
  | m0 :: m1 :: m2 :: _ :: _ :: _ :: b6 :: b7 :: b8 :: b9 :: _ =>
    if isId3v2Mark m0 m1 m2 then .ok (.id3v2Mark b6 b7 b8 b9) else .error .notAMark
  | _ => .error .notAMark

/-- ID3V1 (R81): only the first three of its 128 bytes are read. -/
def decodeId3v1 : List Byte → Except Reject Instr
  | m0 :: m1 :: m2 :: _ => if isId3v1Mark m0 m1 m2 then .ok .id3v1Mark else .error .notAMark
  | _ => .error .notAMark

/-! ## Host accesses -/

/-- An aligned 32-bit read of the register window (R101). -/
def decodeRegRead (off : BitVec 12) : Instr :=
  match off.toNat with
  | 0x00 => .rdCtrl
  | 0x04 => .rdStatus
  | 0x08 => .rdLen
  | 0x0C => .rdCount
  | 0x10 => .rdStartPos
  | 0x14 => .rdEndBound
  | 0x18 => .rdPos
  | 0x1C => .rdCfg
  | 0x20 => .rdBufmax
  | _ => .rdRsvd off

/-- An aligned 32-bit write of the register window (R102-R106). -/
def decodeRegWrite (off : BitVec 12) (v : Word) : Instr :=
  match off.toNat with
  | 0x00 => .wrCtrl v
  | 0x04 => .wrStatus v
  | 0x08 => .wrLen v
  | 0x0C => .wrRoCount v
  | 0x10 => .wrRoStartPos v
  | 0x14 => .wrRoEndBound v
  | 0x18 => .wrRoPos v
  | 0x1C => .wrRoCfg v
  | 0x20 => .wrRoBufmax v
  | _ => .wrRsvd off v

/-- An access to the register window at an offset (R82, R109). -/
def decodeReg (dir : Dir) (off : BitVec 12) (width : Nat) (v : Word) : Instr :=
  if width ≠ 32 ∨ off.toNat % 4 ≠ 0 then .badReg dir off width v
  else
    match dir with
    | .read => decodeRegRead off
    | .write => decodeRegWrite off v

/-- An access to the buffer window at an offset (R83, R110). -/
def decodeBuf (dir : Dir) (off : Word) (width : Nat) (v : Word) : Except BusReject Instr :=
  if width = 8 then
    match dir with
    | .read => .ok (.bufRd off)
    | .write => .ok (.bufWr off (v.setWidth 8))
  else .error (.bufAccessNotByte width)

/-- A bus address lies in one of the two windows. -/
def Config.owns (c : Config) (addr : Nat) : Bool :=
  decide (c.regBase ≤ addr ∧ addr < c.regBase + Config.regWindow) ||
    decide (c.bufBase ≤ addr ∧ addr < c.bufBase + c.bufMax.toNat)

/-- A bus access: the window its address lies in decides what it is (R50, R51, R58). -/
def decodeAccess (c : Config) (a : BusAccess) : Except BusReject Instr :=
  if c.regBase ≤ a.addr ∧ a.addr < c.regBase + Config.regWindow then
    .ok (decodeReg a.dir (BitVec.ofNat 12 (a.addr - c.regBase)) a.width a.data)
  else if c.bufBase ≤ a.addr ∧ a.addr < c.bufBase + c.bufMax.toNat then
    decodeBuf a.dir (BitVec.ofNat 32 (a.addr - c.bufBase)) a.width a.data
  else .error .outsideWindows

/-! ## All formats -/

/-- The raw form of an instruction in each format of spec/30_encoding.md. -/
inductive Encoding where
  | hdr32 (w : Word)
  | id3v2Hdr (bytes : List Byte)
  | id3v1 (bytes : List Byte)
  | bus (a : BusAccess)
deriving DecidableEq, Repr

/-- The decoder over all formats. -/
def decode (c : Config) : Encoding → Except Reject Instr
  | .hdr32 w => .ok (decodeHdr c.hdrLayout w)
  | .id3v2Hdr bs => decodeId3v2 bs
  | .id3v1 bs => decodeId3v1 bs
  | .bus a =>
    match decodeAccess c a with
    | .ok i => .ok i
    | .error r => .error (.bus r)

/-! ## The encoder -/

/-- A candidate word under MPEG_STD with legal sync, version and layer (R72), most significant field
first. -/
def packMpegStd (prot : BitVec 1) (bri : BitVec 4) (sri : BitVec 2) (pad : BitVec 1)
    (low : BitVec 9) : Word :=
  0x7FF#11 ++ 3#2 ++ 1#2 ++ prot ++ bri ++ sri ++ pad ++ low

/-- A candidate word under DOC_TABLE with legal sync, version and layer (R73). -/
def packDocTable (bri : BitVec 4) (sri : BitVec 2) (pad : BitVec 1) (low : BitVec 10) : Word :=
  0x7FF#11 ++ 3#2 ++ 1#2 ++ bri ++ sri ++ pad ++ low

/-- A register access (R82) at its bus address. -/
def regAccess (c : Config) (dir : Dir) (off : Nat) (v : Word) : BusAccess :=
  { addr := c.regBase + off, dir := dir, width := 32, data := v }

/-- A buffer access (R83) at its bus address. -/
def bufAccess (c : Config) (dir : Dir) (off : Word) (b : Byte) : BusAccess :=
  { addr := c.bufBase + off.toNat, dir := dir, width := 8, data := b.setWidth 32 }

/-- The raw form of an instruction. The bytes of a tag header that the row leaves open are zero (R80,
R81), and so is the data of a read. -/
def encode (c : Config) : Instr → Encoding
  | .frameMpegStdB1S0 prot pad low => .hdr32 (packMpegStd prot 1#4 0#2 pad low)
  | .frameMpegStdB1S1 prot pad low => .hdr32 (packMpegStd prot 1#4 1#2 pad low)
  | .frameMpegStdB1S2 prot pad low => .hdr32 (packMpegStd prot 1#4 2#2 pad low)
  | .frameMpegStdB2S0 prot pad low => .hdr32 (packMpegStd prot 2#4 0#2 pad low)
  | .frameMpegStdB2S1 prot pad low => .hdr32 (packMpegStd prot 2#4 1#2 pad low)
  | .frameMpegStdB2S2 prot pad low => .hdr32 (packMpegStd prot 2#4 2#2 pad low)
  | .frameMpegStdB3S0 prot pad low => .hdr32 (packMpegStd prot 3#4 0#2 pad low)
  | .frameMpegStdB3S1 prot pad low => .hdr32 (packMpegStd prot 3#4 1#2 pad low)
  | .frameMpegStdB3S2 prot pad low => .hdr32 (packMpegStd prot 3#4 2#2 pad low)
  | .frameMpegStdB4S0 prot pad low => .hdr32 (packMpegStd prot 4#4 0#2 pad low)
  | .frameMpegStdB4S1 prot pad low => .hdr32 (packMpegStd prot 4#4 1#2 pad low)
  | .frameMpegStdB4S2 prot pad low => .hdr32 (packMpegStd prot 4#4 2#2 pad low)
  | .frameMpegStdB5S0 prot pad low => .hdr32 (packMpegStd prot 5#4 0#2 pad low)
  | .frameMpegStdB5S1 prot pad low => .hdr32 (packMpegStd prot 5#4 1#2 pad low)
  | .frameMpegStdB5S2 prot pad low => .hdr32 (packMpegStd prot 5#4 2#2 pad low)
  | .frameMpegStdB6S0 prot pad low => .hdr32 (packMpegStd prot 6#4 0#2 pad low)
  | .frameMpegStdB6S1 prot pad low => .hdr32 (packMpegStd prot 6#4 1#2 pad low)
  | .frameMpegStdB6S2 prot pad low => .hdr32 (packMpegStd prot 6#4 2#2 pad low)
  | .frameMpegStdB7S0 prot pad low => .hdr32 (packMpegStd prot 7#4 0#2 pad low)
  | .frameMpegStdB7S1 prot pad low => .hdr32 (packMpegStd prot 7#4 1#2 pad low)
  | .frameMpegStdB7S2 prot pad low => .hdr32 (packMpegStd prot 7#4 2#2 pad low)
  | .frameMpegStdB8S0 prot pad low => .hdr32 (packMpegStd prot 8#4 0#2 pad low)
  | .frameMpegStdB8S1 prot pad low => .hdr32 (packMpegStd prot 8#4 1#2 pad low)
  | .frameMpegStdB8S2 prot pad low => .hdr32 (packMpegStd prot 8#4 2#2 pad low)
  | .frameMpegStdB9S0 prot pad low => .hdr32 (packMpegStd prot 9#4 0#2 pad low)
  | .frameMpegStdB9S1 prot pad low => .hdr32 (packMpegStd prot 9#4 1#2 pad low)
  | .frameMpegStdB9S2 prot pad low => .hdr32 (packMpegStd prot 9#4 2#2 pad low)
  | .frameMpegStdB10S0 prot pad low => .hdr32 (packMpegStd prot 10#4 0#2 pad low)
  | .frameMpegStdB10S1 prot pad low => .hdr32 (packMpegStd prot 10#4 1#2 pad low)
  | .frameMpegStdB10S2 prot pad low => .hdr32 (packMpegStd prot 10#4 2#2 pad low)
  | .frameMpegStdB11S0 prot pad low => .hdr32 (packMpegStd prot 11#4 0#2 pad low)
  | .frameMpegStdB11S1 prot pad low => .hdr32 (packMpegStd prot 11#4 1#2 pad low)
  | .frameMpegStdB11S2 prot pad low => .hdr32 (packMpegStd prot 11#4 2#2 pad low)
  | .frameMpegStdB12S0 prot pad low => .hdr32 (packMpegStd prot 12#4 0#2 pad low)
  | .frameMpegStdB12S1 prot pad low => .hdr32 (packMpegStd prot 12#4 1#2 pad low)
  | .frameMpegStdB12S2 prot pad low => .hdr32 (packMpegStd prot 12#4 2#2 pad low)
  | .frameMpegStdB13S0 prot pad low => .hdr32 (packMpegStd prot 13#4 0#2 pad low)
  | .frameMpegStdB13S1 prot pad low => .hdr32 (packMpegStd prot 13#4 1#2 pad low)
  | .frameMpegStdB13S2 prot pad low => .hdr32 (packMpegStd prot 13#4 2#2 pad low)
  | .frameMpegStdB14S0 prot pad low => .hdr32 (packMpegStd prot 14#4 0#2 pad low)
  | .frameMpegStdB14S1 prot pad low => .hdr32 (packMpegStd prot 14#4 1#2 pad low)
  | .frameMpegStdB14S2 prot pad low => .hdr32 (packMpegStd prot 14#4 2#2 pad low)
  | .frameDocTableB1S0 pad low => .hdr32 (packDocTable 1#4 0#2 pad low)
  | .frameDocTableB1S1 pad low => .hdr32 (packDocTable 1#4 1#2 pad low)
  | .frameDocTableB1S2 pad low => .hdr32 (packDocTable 1#4 2#2 pad low)
  | .frameDocTableB2S0 pad low => .hdr32 (packDocTable 2#4 0#2 pad low)
  | .frameDocTableB2S1 pad low => .hdr32 (packDocTable 2#4 1#2 pad low)
  | .frameDocTableB2S2 pad low => .hdr32 (packDocTable 2#4 2#2 pad low)
  | .frameDocTableB3S0 pad low => .hdr32 (packDocTable 3#4 0#2 pad low)
  | .frameDocTableB3S1 pad low => .hdr32 (packDocTable 3#4 1#2 pad low)
  | .frameDocTableB3S2 pad low => .hdr32 (packDocTable 3#4 2#2 pad low)
  | .frameDocTableB4S0 pad low => .hdr32 (packDocTable 4#4 0#2 pad low)
  | .frameDocTableB4S1 pad low => .hdr32 (packDocTable 4#4 1#2 pad low)
  | .frameDocTableB4S2 pad low => .hdr32 (packDocTable 4#4 2#2 pad low)
  | .frameDocTableB5S0 pad low => .hdr32 (packDocTable 5#4 0#2 pad low)
  | .frameDocTableB5S1 pad low => .hdr32 (packDocTable 5#4 1#2 pad low)
  | .frameDocTableB5S2 pad low => .hdr32 (packDocTable 5#4 2#2 pad low)
  | .frameDocTableB6S0 pad low => .hdr32 (packDocTable 6#4 0#2 pad low)
  | .frameDocTableB6S1 pad low => .hdr32 (packDocTable 6#4 1#2 pad low)
  | .frameDocTableB6S2 pad low => .hdr32 (packDocTable 6#4 2#2 pad low)
  | .frameDocTableB7S0 pad low => .hdr32 (packDocTable 7#4 0#2 pad low)
  | .frameDocTableB7S1 pad low => .hdr32 (packDocTable 7#4 1#2 pad low)
  | .frameDocTableB7S2 pad low => .hdr32 (packDocTable 7#4 2#2 pad low)
  | .frameDocTableB8S0 pad low => .hdr32 (packDocTable 8#4 0#2 pad low)
  | .frameDocTableB8S1 pad low => .hdr32 (packDocTable 8#4 1#2 pad low)
  | .frameDocTableB8S2 pad low => .hdr32 (packDocTable 8#4 2#2 pad low)
  | .frameDocTableB9S0 pad low => .hdr32 (packDocTable 9#4 0#2 pad low)
  | .frameDocTableB9S1 pad low => .hdr32 (packDocTable 9#4 1#2 pad low)
  | .frameDocTableB9S2 pad low => .hdr32 (packDocTable 9#4 2#2 pad low)
  | .frameDocTableB10S0 pad low => .hdr32 (packDocTable 10#4 0#2 pad low)
  | .frameDocTableB10S1 pad low => .hdr32 (packDocTable 10#4 1#2 pad low)
  | .frameDocTableB10S2 pad low => .hdr32 (packDocTable 10#4 2#2 pad low)
  | .frameDocTableB11S0 pad low => .hdr32 (packDocTable 11#4 0#2 pad low)
  | .frameDocTableB11S1 pad low => .hdr32 (packDocTable 11#4 1#2 pad low)
  | .frameDocTableB11S2 pad low => .hdr32 (packDocTable 11#4 2#2 pad low)
  | .frameDocTableB12S0 pad low => .hdr32 (packDocTable 12#4 0#2 pad low)
  | .frameDocTableB12S1 pad low => .hdr32 (packDocTable 12#4 1#2 pad low)
  | .frameDocTableB12S2 pad low => .hdr32 (packDocTable 12#4 2#2 pad low)
  | .frameDocTableB13S0 pad low => .hdr32 (packDocTable 13#4 0#2 pad low)
  | .frameDocTableB13S1 pad low => .hdr32 (packDocTable 13#4 1#2 pad low)
  | .frameDocTableB13S2 pad low => .hdr32 (packDocTable 13#4 2#2 pad low)
  | .frameDocTableB14S0 pad low => .hdr32 (packDocTable 14#4 0#2 pad low)
  | .frameDocTableB14S1 pad low => .hdr32 (packDocTable 14#4 1#2 pad low)
  | .frameDocTableB14S2 pad low => .hdr32 (packDocTable 14#4 2#2 pad low)
  | .reject w => .hdr32 w
  | .rejSync sync rest => .hdr32 (sync ++ rest)
  | .rejVersion0 rest => .hdr32 (0x7FF#11 ++ 0#2 ++ rest)
  | .rejVersion1 rest => .hdr32 (0x7FF#11 ++ 1#2 ++ rest)
  | .rejVersion2 rest => .hdr32 (0x7FF#11 ++ 2#2 ++ rest)
  | .rejLayer0 rest => .hdr32 (0x7FF#11 ++ 3#2 ++ 0#2 ++ rest)
  | .rejLayer2 rest => .hdr32 (0x7FF#11 ++ 3#2 ++ 2#2 ++ rest)
  | .rejLayer3 rest => .hdr32 (0x7FF#11 ++ 3#2 ++ 3#2 ++ rest)
  | .rejFreeMpegStd prot rest => .hdr32 (0x7FF#11 ++ 3#2 ++ 1#2 ++ prot ++ 0#4 ++ rest)
  | .rejBr15MpegStd prot rest => .hdr32 (0x7FF#11 ++ 3#2 ++ 1#2 ++ prot ++ 15#4 ++ rest)
  | .rejSr3MpegStd prot bri rest => .hdr32 (0x7FF#11 ++ 3#2 ++ 1#2 ++ prot ++ bri ++ 3#2 ++ rest)
  | .rejFreeDocTable rest => .hdr32 (0x7FF#11 ++ 3#2 ++ 1#2 ++ 0#4 ++ rest)
  | .rejBr15DocTable rest => .hdr32 (0x7FF#11 ++ 3#2 ++ 1#2 ++ 15#4 ++ rest)
  | .rejSr3DocTable bri rest => .hdr32 (0x7FF#11 ++ 3#2 ++ 1#2 ++ bri ++ 3#2 ++ rest)
  | .id3v2Mark b6 b7 b8 b9 => .id3v2Hdr [0x49#8, 0x44#8, 0x33#8, 0#8, 0#8, 0#8, b6, b7, b8, b9]
  | .id3v1Mark => .id3v1 ([0x54#8, 0x41#8, 0x47#8] ++ List.replicate 125 0#8)
  | .rdCtrl => .bus (regAccess c .read 0x00 0)
  | .rdStatus => .bus (regAccess c .read 0x04 0)
  | .rdLen => .bus (regAccess c .read 0x08 0)
  | .rdCount => .bus (regAccess c .read 0x0C 0)
  | .rdStartPos => .bus (regAccess c .read 0x10 0)
  | .rdEndBound => .bus (regAccess c .read 0x14 0)
  | .rdPos => .bus (regAccess c .read 0x18 0)
  | .rdCfg => .bus (regAccess c .read 0x1C 0)
  | .rdBufmax => .bus (regAccess c .read 0x20 0)
  | .rdRsvd off => .bus (regAccess c .read off.toNat 0)
  | .wrCtrl v => .bus (regAccess c .write 0x00 v)
  | .wrStatus v => .bus (regAccess c .write 0x04 v)
  | .wrLen v => .bus (regAccess c .write 0x08 v)
  | .wrRoCount v => .bus (regAccess c .write 0x0C v)
  | .wrRoStartPos v => .bus (regAccess c .write 0x10 v)
  | .wrRoEndBound v => .bus (regAccess c .write 0x14 v)
  | .wrRoPos v => .bus (regAccess c .write 0x18 v)
  | .wrRoCfg v => .bus (regAccess c .write 0x1C v)
  | .wrRoBufmax v => .bus (regAccess c .write 0x20 v)
  | .wrRsvd off v => .bus (regAccess c .write off.toNat v)
  | .bufWr off b => .bus (bufAccess c .write off b)
  | .bufRd off => .bus (bufAccess c .read off 0)
  | .badReg dir off width v => .bus { addr := c.regBase + off.toNat, dir := dir, width := width, data := v }

/-! ## The opcode table's numbering -/

/-- The bus access of a REG32 or BUF8 row: REG32 rows are keyed by `(direction << 12) | offset` in their
low 13 bits (R82), BUF8 rows by the direction bit alone (R83); offset and data are otherwise zero. -/
def tableAccess (c : Config) (nbits w : Nat) : BusAccess :=
  if nbits ≤ 8 then bufAccess c (if w % 2 = 1 then .write else .read) 0 0
  else regAccess c (if w / 0x1000 % 2 = 1 then .write else .read) (w % 0x1000) 0

/-- The bytes of a 24-bit tag row, the first one most significant, and zeros after them. -/
def tableMarkBytes (w : Nat) : List Byte :=
  [BitVec.ofNat 8 (w / 0x10000), BitVec.ofNat 8 (w / 0x100), BitVec.ofNat 8 w] ++
    List.replicate 7 0#8

/-- The instruction the decoder reads from a row's bits, under the parameters of `Config.hardware`. The
row's width tells its format: 8 bits BUF8, 16 bits REG32, 24 bits a tag marker, 32 bits HDR32. -/
def decodeTableWord (nbits w : Nat) : Option Instr :=
  if nbits ≤ 16 then (decodeAccess Config.hardware (tableAccess Config.hardware nbits w)).toOption
  else if nbits ≤ 24 then
    match decodeId3v2 (tableMarkBytes w) with
    | .ok i => some i
    | .error _ => (decodeId3v1 (tableMarkBytes w)).toOption
  else some (decodeHdr Config.hardware.hdrLayout (BitVec.ofNat 32 w))

end Sys2Proof
end

