-- ==== Sys2Proof/Machine/State.lean ====
section
/-! DEFINITION. The state of one scanner instance (spec/10_state.md R20), the host's side of the bus that
the interleaving needs (spec/20_memory.md R60), the state right after reset (spec/70_reset_and_hazards.md
R260) and the named reasons a step can stop. State is plain data. -/

namespace Sys2Proof.Machine

/-- BUFMEM (R50): the bytes the host has written since power-up, by rising offset, each offset once. An
offset that is not listed holds no defined value (R66). -/
abbrev Memory := List Host.Cell

/-- The offsets of BUFMEM that the host has written since the last reset (R66), rising, each once. -/
abbrev Offsets := List Nat

/-- The control state FSM (R30). -/
inductive Fsm where
  | idle
  | leadTag
  | trailTag
  | scan
  | finish
deriving DecidableEq, Repr

/-- The stored bits of STATUS (R22). BUSY is not stored: it is `fsm ≠ idle`. Bits 31:5 read 0. -/
structure Status where
  done : Bool
  err : Bool
  haz : Bool
  trunc : Bool
deriving DecidableEq, Repr

/-- Which refused access raised a HostHazard (R234). -/
inductive HazardKind where
  | start
  | len
  | buf
deriving DecidableEq, Repr

/-- The block's events (R230). -/
inductive Event where
  | none
  | contractError (len : Word)
  | hostHazard (kind : HazardKind)
  | bounds
  | done
deriving DecidableEq, Repr

/-- What the host's last read returned: a register word (R101, R109) or a buffer byte (R108). -/
inductive ReadResult where
  | nothing
  | word (v : Word)
  | byte (b : Byte)
deriving DecidableEq, Repr

/-- One event that comes from outside the scanner. A run is one total order of host accesses and scanner
steps (R60): `scannerTurn` says that the scanner moves next. -/
inductive Input where
  | access (a : BusAccess)
  | scannerTurn
  /-- The reset input RST is asserted (R260). -/
  | rst
  /-- Power is removed and comes back: as RST, and BUFMEM is unspecified (R66, R260). -/
  | powerUp
deriving DecidableEq, Repr

/-- The state of one scanner instance and its surroundings. -/
structure State where
  /-- The parameters (R6, R7), CFG and BUFMAX among them (R29). -/
  cfg : Config
  /-- CTRL.IE (R21); CTRL.START holds no state. -/
  ie : Bool
  /-- STATUS (R22). -/
  status : Status
  /-- LEN (R23). -/
  len : Word
  /-- COUNT (R24). -/
  count : Word
  /-- START_POS (R25). -/
  startPos : Word
  /-- END_BOUND (R26). -/
  endBound : Word
  /-- POS (R27), the scanner's program counter. -/
  pos : Word
  /-- FSM (R30). -/
  fsm : Fsm
  /-- HDR (R31): the candidate word during a SCAN step, a free value outside it (log 4). -/
  hdr : Word
  /-- BUFMEM (R50). RST keeps it (R260). -/
  bufmem : Memory
  /-- The model's own: which offsets of BUFMEM the host has written since the last reset, RST or power-up.
  A scanner read of any other byte is "a fault of the run" (R66, D17, ID-6; log 5). -/
  written : Offsets
  /-- The model's own: the outside events still to come, the next one first (R60). When none is left
  the scanner moves (R273). -/
  inputs : List Input
  /-- The model's own: what the host's last read returned (R101, R108). -/
  hostResult : ReadResult
  /-- The model's own: the event of the last step (R230). -/
  event : Event
  /-- The model's own: how many free words were drawn (log 4). -/
  draws : Nat
  /-- The model's own: how many power-ups came before; it selects the unspecified content of BUFMEM
  (log 3). -/
  powerUps : Nat
deriving DecidableEq, Repr

/-- Why the machine stops. -/
inductive Fault where
  /-- A scanner step reads a byte of BUFMEM that the host has not written since the last reset: "a fault
  of the run" (R66, ID-6; log 5). Raised by the LEAD_TAG, TRAIL_TAG and SCAN steps. Safe. -/
  | unwrittenByte (offset : Nat)
  /-- A byte of BUFMEM at an offset of P_BUF_MAX or more, which does not exist (R50). No decoded
  instruction and no step from a state that meets `State.Inv` raises it. Safe. -/
  | noSuchByte (offset : Nat)
deriving DecidableEq, Repr

/-- Why a step gives no meaning. -/
inductive Refusal where
  /-- An instruction without a meaning yet. Raised by no arm of `exec`. Safe. -/
  | notModelled (mnemonic : String)
  /-- A buffer-window access that is not 8 bits wide: "A model that has no such platform splitting
  refuses the wide access." (R110); a narrower one is refused with it (DESIGN CHOICE, log 13). Raised by
  the step. Safe. -/
  | bufAccessNotByte (width : Nat)
deriving DecidableEq, Repr

/-- What a meaning and a step answer. -/
abbrev Result := Host.Outcome State Fault Refusal

/-- The machine right after power-up and reset (R260): every register 0, FSM IDLE, no byte of BUFMEM
defined. HDR is unspecified there; DESIGN CHOICE (log 4): 0, and nothing reads it before it is
written. -/
def State.reset : State :=
  { cfg := Config.hardware
    ie := false
    status := { done := false, err := false, haz := false, trunc := false }
    len := 0
    count := 0
    startPos := 0
    endBound := 0
    pos := 0
    fsm := .idle
    hdr := 0
    bufmem := []
    written := []
    inputs := []
    hostResult := .nothing
    event := .none
    draws := 0
    powerUps := 0 }

end Sys2Proof.Machine
end

