-- ==== Sys2Proof/Machine/Operands.lean ====
section
/-! DEFINITION. Operand forms: reading BUFMEM bytes and big-endian words (spec/20_memory.md R53, R56),
the synchsafe size (spec/41_tag_skipper.md R131), the two ROMs (spec/42_header_decoder.md R160, R162) and
the frame length (spec/43_frame_length.md R181). -/

namespace Sys2Proof.Machine

/-- The byte listed at an offset, none where the host has not written it since power-up. -/
def Memory.read : Memory → Nat → Option Byte
  | [], _ => none
  | (k, v) :: m, a => if k = a then some v else Memory.read m a

/-- The byte at an offset as the scanner may use it: none where the host has not written it since the last
reset, though BUFMEM may still hold a byte there from before an RST (R66, R260; log 5). -/
def State.loadedByte (s : State) (a : Nat) : Option Byte :=
  if s.written.contains a then Memory.read s.bufmem a else none

/-- `BufRead(a)` as the scanner issues it (R11). A byte that does not exist (R50) or has no write since the
last reset (R66) stops the run. -/
def bufRead (s : State) (a : Nat) : Except Fault Byte :=
  if a < s.cfg.bufMax.toNat then
    match s.loadedByte a with
    | some b => .ok b
    | none => .error (.unwrittenByte a)
  else .error (.noSuchByte a)

/-- `BufRead(a)` as the host's BUF_RD sees it (R108): a byte written since power-up is returned, also after
an RST (R260, V-RST-01; log 5). One never written returns an unspecified value (ID-5), here the free value of
this instance, power-up and offset (log 3). -/
def hostByte (s : State) (a : Nat) : Byte :=
  match Memory.read s.bufmem a with
  | some b => b
  | none => Config.freeByte s.cfg.regBase s.powerUps a

/-- Three consecutive bytes: a tag marker (R130, R135). All three are read, whatever the first one is
(log 6). -/
def bufRead3 (s : State) (a : Nat) : Except Fault (Byte × Byte × Byte) :=
  match bufRead s a, bufRead s (a + 1), bufRead s (a + 2) with
  | .ok b0, .ok b1, .ok b2 => .ok (b0, b1, b2)
  | .error f, _, _ => .error f
  | _, .error f, _ => .error f
  | _, _, .error f => .error f

/-- Four consecutive bytes, the lowest offset first. -/
def bufRead4 (s : State) (a : Nat) : Except Fault (Byte × Byte × Byte × Byte) :=
  match bufRead3 s a, bufRead s (a + 3) with
  | .ok (b0, b1, b2), .ok b3 => .ok (b0, b1, b2, b3)
  | .error f, _ => .error f
  | _, .error f => .error f

/-- `MemRead(a, 4)` (R53): the byte at the lowest offset is most significant. -/
def memRead4 (s : State) (a : Nat) : Except Fault Word :=
  match bufRead4 s a with
  | .ok (b0, b1, b2, b3) => .ok (wordOfBytes b0 b1 b2 b3)
  | .error f => .error f

/-- The low seven bits of a size byte (R131: the top bit "must be ignored"). -/
def low7 (b : Byte) : Nat := b.toNat % 128

/-- SIZE, the synchsafe integer of R131: seven bits a byte, most significant byte first. The four groups
are disjoint, so the sum is the spec's bitwise or. -/
def synchsafe (b6 b7 b8 b9 : Byte) : Nat :=
  low7 b6 * 2 ^ 21 + low7 b7 * 2 ^ 14 + low7 b8 * 2 ^ 7 + low7 b9

/-- BITRATE_ROM (R33, R160): kbps by bitrate index. Entries 0 and 15 hold 0 and are never read (R161).
PRESUMED (log 7): entries 2 to 4 and 6 to 13 are the spec's own general knowledge (GK-1). -/
def bitrateRom (i : BitVec 4) : BitVec 9 :=
  match i.toNat with
  | 1 => 32
  | 2 => 40
  | 3 => 48
  | 4 => 56
  | 5 => 64
  | 6 => 80
  | 7 => 96
  | 8 => 112
  | 9 => 128
  | 10 => 160
  | 11 => 192
  | 12 => 224
  | 13 => 256
  | 14 => 320
  | _ => 0

/-- SRATE_ROM (R33, R162): Hz by sample-rate index. Entry 3 holds 0 and is never read (R163). -/
def srateRom (i : BitVec 2) : BitVec 16 :=
  match i.toNat with
  | 0 => 44100
  | 1 => 48000
  | 2 => 32000
  | _ => 0

/-- FLEN (R181): the exact product is divided, floored, and the padding byte is added after it. -/
def flen (bri : BitVec 4) (sri : BitVec 2) (pad : BitVec 1) : Nat :=
  144 * ((bitrateRom bri).toNat * 1000) / (srateRom sri).toNat + pad.toNat

end Sys2Proof.Machine
end

