-- ==== Sys2Proof/Machine/Flags.lean ====
section
/-! DEFINITION. The condition signals of one scanner step (spec/10_state.md R35: G, B and the tag
conditions), the STATUS and CTRL words the host reads (spec/40_host_interface.md R101), the
write-1-to-clear rule (R104) and the interrupt line (spec/10_state.md R32). -/

namespace Sys2Proof.Machine

/-- STATUS.BUSY (R22): FSM is not IDLE. -/
def State.busy (s : State) : Bool := s.fsm != .idle

/-- The interrupt output IRQ (R32, R235): a level, not state. -/
def State.irq (s : State) : Bool := s.status.done && s.ie

/-- The loop guard G (R201), on exact naturals: `POS + 4 < END_BOUND`. -/
def State.guard (s : State) : Bool := decide (s.pos.toNat + 4 < s.endBound.toNat)

/-- A candidate fetch would reach an offset of LEN or more (R207). -/
def State.outOfBounds (s : State) : Bool := decide (s.len.toNat ≤ s.pos.toNat + 3)

/-- The boundary rule B (R204): `NEXT ≥ END_BOUND`, on exact naturals. -/
def State.reachesEnd (s : State) (next : Nat) : Bool := decide (s.endBound.toNat ≤ next)

/-- The LEN test of the leading-tag check (R130), made before any byte is read. -/
def State.roomForId3v2 (s : State) : Bool := decide (10 ≤ s.len.toNat)

/-- The LEN test of the trailing-tag check (R135), made before any byte is read. -/
def State.roomForId3v1 (s : State) : Bool := decide (128 ≤ s.len.toNat)

/-- What a read of CTRL returns (R101): START reads 0. -/
def State.ctrlWord (s : State) : Word := 0#30 ++ BitVec.ofBool s.ie ++ 0#1

/-- What a read of STATUS returns (R101). -/
def State.statusWord (s : State) : Word :=
  0#27 ++ BitVec.ofBool s.status.trunc ++ BitVec.ofBool s.status.haz ++
    BitVec.ofBool s.status.err ++ BitVec.ofBool s.status.done ++ BitVec.ofBool s.busy

/-- What a read of CFG returns (R29, R101): bit 0 is HDR_LAYOUT. -/
def State.cfgWord (s : State) : Word :=
  match s.cfg.hdrLayout with
  | .mpegStd => 0
  | .docTable => 1

/-- Write-1-to-clear on STATUS (R104): DONE, ERR and HAZ where the written bit is 1. BUSY and TRUNC are
read-only. -/
def Status.acknowledge (st : Status) (v : Word) : Status :=
  { st with
    done := st.done && !v.getLsbD 1
    err := st.err && !v.getLsbD 2
    haz := st.haz && !v.getLsbD 3 }

/-- CTRL.START of a written word (R21). -/
def startBit (v : Word) : Bool := v.getLsbD 0

/-- CTRL.IE of a written word (R21). -/
def ieBit (v : Word) : Bool := v.getLsbD 1

/-- The event codes of R230. -/
def Event.code : Event → Nat
  | .none => 0
  | .contractError _ => 1
  | .hostHazard _ => 2
  | .bounds => 3
  | .done => 4

end Sys2Proof.Machine
end

