-- ==== Sys2Proof/Machine/Ops.lean ====
section
/-! DEFINITION. The named operations that the meanings and the step share: writing BUFMEM, raising and
acknowledging an event (which take the place of trap entry and return, spec/60_exceptions.md R237,
R238), and the register updates of the host rules (spec/40_host_interface.md), of the tag steps
(spec/41_tag_skipper.md), of the scan loop (spec/44_scan_loop.md) and of reset
(spec/70_reset_and_hazards.md). -/

namespace Sys2Proof.Machine

/-! ## BUFMEM -/

/-- `MemWrite(a, 1, b)` (R11), keeping the offsets rising. -/
def Memory.write : Memory → Nat → Byte → Memory
  | [], a, b => [(a, b)]
  | (k, v) :: m, a, b =>
    if a < k then (a, b) :: (k, v) :: m
    else if a = k then (a, b) :: m
    else (k, v) :: Memory.write m a b

/-- The canonical form of BUFMEM: the listed offsets rise strictly. -/
def Memory.wf : Memory → Bool
  | [] => true
  | [_] => true
  | (k, _) :: (k', v') :: m => decide (k < k') && Memory.wf ((k', v') :: m)

/-- Every listed offset is one of the `n` bytes that exist (R50). -/
def Memory.below (m : Memory) (n : Nat) : Bool := m.all fun c => decide (c.1 < n)

/-- One more offset was written, keeping the list rising. -/
def Offsets.add : Offsets → Nat → Offsets
  | [], a => [a]
  | k :: w, a =>
    if a < k then a :: k :: w
    else if a = k then k :: w
    else k :: Offsets.add w a

/-- The canonical form of the written offsets: they rise strictly. -/
def Offsets.wf : Offsets → Bool
  | [] => true
  | [_] => true
  | k :: k' :: w => decide (k < k') && Offsets.wf (k' :: w)

/-- BUFMEM[a] <- b; the byte counts as written since the last reset (R66). -/
def storeByte (a : Nat) (b : Byte) (s : State) : State :=
  { s with bufmem := Memory.write s.bufmem a b, written := Offsets.add s.written a }

/-- Several bytes at ascending offsets. -/
def storeBytes : Nat → List Byte → State → State
  | _, [], s => s
  | a, b :: bs, s => storeBytes (a + 1) bs (storeByte a b s)

/-! ## Events -/

/-- `raise HostHazard(kind)` (R234): HAZ is set, the refused access has no other effect. -/
def raiseHazard (k : HazardKind) (s : State) : State :=
  { s with status := { s.status with haz := true }, event := .hostHazard k }

/-- The contract-error path of START (R103): `raise ContractError(LEN)` and its register values,
`x[STATUS].HAZ <- 0` among them (log 23: R22, R234 and D13 do not list this clearing). -/
def contractError (s : State) : State :=
  { s with
    status := { done := true, err := true, haz := false, trunc := false }
    count := 0
    startPos := 0
    endBound := 0
    pos := 0
    event := .contractError s.len }

/-- The host's acknowledge (R104, R238). -/
def acknowledge (v : Word) (s : State) : State :=
  { s with status := s.status.acknowledge v }

/-! ## Host operations -/

/-- `x[CTRL].IE <- v[1]` (R102). -/
def setIe (v : Word) (s : State) : State := { s with ie := ieBit v }

/-- An accepted START (R102). -/
def acceptStart (s : State) : State :=
  { s with
    status := { done := false, err := false, haz := false, trunc := false }
    count := 0
    startPos := 0
    pos := 0
    endBound := s.len
    fsm := .leadTag }

/-- `x[LEN] <- v` (R105). -/
def setLen (v : Word) (s : State) : State := { s with len := v }

/-- The result of a read goes to the host; nothing else changes (R101, R108). -/
def returnRead (r : ReadResult) (s : State) : State := { s with hostResult := r }

/-- START = 1 was written (R102): hazard, contract error or acceptance, in the order of R236. -/
def start (s : State) : State :=
  if s.busy then raiseHazard .start s
  else if s.cfg.bufMax.toNat < s.len.toNat then contractError s
  else acceptStart s

/-! ## Tag steps -/

/-- The register writes of the LEAD_TAG step (R132). -/
def setStart (start : Nat) (s : State) : State :=
  { s with startPos := BitVec.ofNat 32 start, pos := BitVec.ofNat 32 start, fsm := .trailTag }

/-- The register writes of the TRAIL_TAG step (R136). -/
def setEnd (bound : Nat) (s : State) : State :=
  { s with endBound := BitVec.ofNat 32 bound, fsm := .scan }

/-! ## Scan loop -/

/-- `HDR <- MemRead(POS, 4)` (R151). -/
def latchHdr (w : Word) (s : State) : State := { s with hdr := w }

/-- The end of a SCAN step: HDR is unspecified from here on (R31), a free value. -/
def releaseHdr (s : State) : State :=
  { s with hdr := Config.freeWord s.cfg.regBase s.draws, draws := s.draws + 1 }

/-- `FSM <- FINISH`, and nothing else: the guard failed (R201). -/
def endScan (s : State) : State := { s with fsm := .finish }

/-- The bounds path (R207). -/
def boundsPath (s : State) : State := { s with count := 0, fsm := .finish, event := .bounds }

/-- Resynchronise by one byte (R202). -/
def advanceByOne (s : State) : State := { s with pos := s.pos + 1 }

/-- The boundary rule ends the scan (R204): POS and COUNT stay. -/
def truncateScan (s : State) : State :=
  { s with status := { s.status with trunc := true }, fsm := .finish }

/-- Count and advance (R205). -/
def countFrame (next : Nat) (s : State) : State :=
  { s with count := s.count + 1, pos := BitVec.ofNat 32 next }

/-- The FINISH step (R206). -/
def finishScan (s : State) : State :=
  { s with status := { s.status with done := true }, fsm := .idle, event := .done }

/-- A valid candidate (R203 to R205): NEXT is exact, then the boundary rule, then the count. -/
def frameStep (bri : BitVec 4) (sri : BitVec 2) (pad : BitVec 1) (s : State) : State :=
  let next := s.pos.toNat + flen bri sri pad
  releaseHdr (if s.reachesEnd next then truncateScan s else countFrame next s)

/-- A rejected candidate (R202). -/
def rejectStep (s : State) : State := releaseHdr (advanceByOne s)

/-! ## Reset and turns -/

/-- RST is asserted (R260): the registers take their reset values, whatever the block was doing; BUFMEM,
the parameters and the host's side stay; HDR is unspecified. No byte counts as written since this reset
(R66; log 5). -/
def assertRst (s : State) : State :=
  { s with
    ie := false
    status := { done := false, err := false, haz := false, trunc := false }
    len := 0
    count := 0
    startPos := 0
    endBound := 0
    pos := 0
    fsm := .idle
    written := []
    hdr := Config.freeWord s.cfg.regBase s.draws
    draws := s.draws + 1 }

/-- Power-up (R66, R260; log 5): as RST, and BUFMEM holds the unspecified bytes of a new power-up. -/
def powerUp (s : State) : State :=
  { assertRst s with bufmem := [], powerUps := s.powerUps + 1 }

/-- A turn begins: its input is taken, and no event has been raised in it yet. -/
def beginTurn (rest : List Input) (s : State) : State :=
  { s with inputs := rest, event := .none }

end Sys2Proof.Machine
end

