-- ==== Sys2Proof/Machine/Buffer.lean ====
section
/-! DEFINITION. The meanings of the buffer accesses (spec/40_host_interface.md R107, R108). An offset of P_BUF_MAX or
more is no operand of either (R83); there is no such byte. -/

namespace Sys2Proof.Machine

/-- BUF_WR (R107): refused while BUSY. -/
def execBufWr (off : Word) (b : Byte) (s : State) : Result :=
  if off.toNat < s.cfg.bufMax.toNat then
    .next (if s.busy then raiseHazard .buf s else storeByte off.toNat b s)
  else .fault (.noSuchByte off.toNat)

/-- BUF_RD (R108): allowed also while BUSY; a byte never written reads as an unspecified value. -/
def execBufRd (off : Word) (s : State) : Result :=
  if off.toNat < s.cfg.bufMax.toNat then .next (returnRead (.byte (hostByte s off.toNat)) s)
  else .fault (.noSuchByte off.toNat)

end Sys2Proof.Machine
end

