-- ==== Sys2Proof/Machine/FrameDocTable.lean ====
section
/-! DEFINITION. The meanings of the 42 FRAME rows under DOC_TABLE (spec/44_scan_loop.md R203 to R205): each is the valid
candidate of its own bitrate and sample-rate index. The uninterpreted bits are not read (spec/30_encoding.md
R78). -/

namespace Sys2Proof.Machine

/-- FRAME_DOC_TABLE_B1_S0 (R203): FLEN 104 or 105. -/
def execFrameDocTableB1S0 (pad : BitVec 1) (_low : BitVec 10) (s : State) : Result :=
  .next (frameStep 1#4 0#2 pad s)

/-- FRAME_DOC_TABLE_B1_S1 (R203): FLEN 96 or 97. -/
def execFrameDocTableB1S1 (pad : BitVec 1) (_low : BitVec 10) (s : State) : Result :=
  .next (frameStep 1#4 1#2 pad s)

/-- FRAME_DOC_TABLE_B1_S2 (R203): FLEN 144 or 145. -/
def execFrameDocTableB1S2 (pad : BitVec 1) (_low : BitVec 10) (s : State) : Result :=
  .next (frameStep 1#4 2#2 pad s)

/-- FRAME_DOC_TABLE_B2_S0 (R203): FLEN 130 or 131. -/
def execFrameDocTableB2S0 (pad : BitVec 1) (_low : BitVec 10) (s : State) : Result :=
  .next (frameStep 2#4 0#2 pad s)

/-- FRAME_DOC_TABLE_B2_S1 (R203): FLEN 120 or 121. -/
def execFrameDocTableB2S1 (pad : BitVec 1) (_low : BitVec 10) (s : State) : Result :=
  .next (frameStep 2#4 1#2 pad s)

/-- FRAME_DOC_TABLE_B2_S2 (R203): FLEN 180 or 181. -/
def execFrameDocTableB2S2 (pad : BitVec 1) (_low : BitVec 10) (s : State) : Result :=
  .next (frameStep 2#4 2#2 pad s)

/-- FRAME_DOC_TABLE_B3_S0 (R203): FLEN 156 or 157. -/
def execFrameDocTableB3S0 (pad : BitVec 1) (_low : BitVec 10) (s : State) : Result :=
  .next (frameStep 3#4 0#2 pad s)

/-- FRAME_DOC_TABLE_B3_S1 (R203): FLEN 144 or 145. -/
def execFrameDocTableB3S1 (pad : BitVec 1) (_low : BitVec 10) (s : State) : Result :=
  .next (frameStep 3#4 1#2 pad s)

/-- FRAME_DOC_TABLE_B3_S2 (R203): FLEN 216 or 217. -/
def execFrameDocTableB3S2 (pad : BitVec 1) (_low : BitVec 10) (s : State) : Result :=
  .next (frameStep 3#4 2#2 pad s)

/-- FRAME_DOC_TABLE_B4_S0 (R203): FLEN 182 or 183. -/
def execFrameDocTableB4S0 (pad : BitVec 1) (_low : BitVec 10) (s : State) : Result :=
  .next (frameStep 4#4 0#2 pad s)

/-- FRAME_DOC_TABLE_B4_S1 (R203): FLEN 168 or 169. -/
def execFrameDocTableB4S1 (pad : BitVec 1) (_low : BitVec 10) (s : State) : Result :=
  .next (frameStep 4#4 1#2 pad s)

/-- FRAME_DOC_TABLE_B4_S2 (R203): FLEN 252 or 253. -/
def execFrameDocTableB4S2 (pad : BitVec 1) (_low : BitVec 10) (s : State) : Result :=
  .next (frameStep 4#4 2#2 pad s)

/-- FRAME_DOC_TABLE_B5_S0 (R203): FLEN 208 or 209. -/
def execFrameDocTableB5S0 (pad : BitVec 1) (_low : BitVec 10) (s : State) : Result :=
  .next (frameStep 5#4 0#2 pad s)

/-- FRAME_DOC_TABLE_B5_S1 (R203): FLEN 192 or 193. -/
def execFrameDocTableB5S1 (pad : BitVec 1) (_low : BitVec 10) (s : State) : Result :=
  .next (frameStep 5#4 1#2 pad s)

/-- FRAME_DOC_TABLE_B5_S2 (R203): FLEN 288 or 289. -/
def execFrameDocTableB5S2 (pad : BitVec 1) (_low : BitVec 10) (s : State) : Result :=
  .next (frameStep 5#4 2#2 pad s)

/-- FRAME_DOC_TABLE_B6_S0 (R203): FLEN 261 or 262. -/
def execFrameDocTableB6S0 (pad : BitVec 1) (_low : BitVec 10) (s : State) : Result :=
  .next (frameStep 6#4 0#2 pad s)

/-- FRAME_DOC_TABLE_B6_S1 (R203): FLEN 240 or 241. -/
def execFrameDocTableB6S1 (pad : BitVec 1) (_low : BitVec 10) (s : State) : Result :=
  .next (frameStep 6#4 1#2 pad s)

/-- FRAME_DOC_TABLE_B6_S2 (R203): FLEN 360 or 361. -/
def execFrameDocTableB6S2 (pad : BitVec 1) (_low : BitVec 10) (s : State) : Result :=
  .next (frameStep 6#4 2#2 pad s)

/-- FRAME_DOC_TABLE_B7_S0 (R203): FLEN 313 or 314. -/
def execFrameDocTableB7S0 (pad : BitVec 1) (_low : BitVec 10) (s : State) : Result :=
  .next (frameStep 7#4 0#2 pad s)

/-- FRAME_DOC_TABLE_B7_S1 (R203): FLEN 288 or 289. -/
def execFrameDocTableB7S1 (pad : BitVec 1) (_low : BitVec 10) (s : State) : Result :=
  .next (frameStep 7#4 1#2 pad s)

/-- FRAME_DOC_TABLE_B7_S2 (R203): FLEN 432 or 433. -/
def execFrameDocTableB7S2 (pad : BitVec 1) (_low : BitVec 10) (s : State) : Result :=
  .next (frameStep 7#4 2#2 pad s)

/-- FRAME_DOC_TABLE_B8_S0 (R203): FLEN 365 or 366. -/
def execFrameDocTableB8S0 (pad : BitVec 1) (_low : BitVec 10) (s : State) : Result :=
  .next (frameStep 8#4 0#2 pad s)

/-- FRAME_DOC_TABLE_B8_S1 (R203): FLEN 336 or 337. -/
def execFrameDocTableB8S1 (pad : BitVec 1) (_low : BitVec 10) (s : State) : Result :=
  .next (frameStep 8#4 1#2 pad s)

/-- FRAME_DOC_TABLE_B8_S2 (R203): FLEN 504 or 505. -/
def execFrameDocTableB8S2 (pad : BitVec 1) (_low : BitVec 10) (s : State) : Result :=
  .next (frameStep 8#4 2#2 pad s)

/-- FRAME_DOC_TABLE_B9_S0 (R203): FLEN 417 or 418. -/
def execFrameDocTableB9S0 (pad : BitVec 1) (_low : BitVec 10) (s : State) : Result :=
  .next (frameStep 9#4 0#2 pad s)

/-- FRAME_DOC_TABLE_B9_S1 (R203): FLEN 384 or 385. -/
def execFrameDocTableB9S1 (pad : BitVec 1) (_low : BitVec 10) (s : State) : Result :=
  .next (frameStep 9#4 1#2 pad s)

/-- FRAME_DOC_TABLE_B9_S2 (R203): FLEN 576 or 577. -/
def execFrameDocTableB9S2 (pad : BitVec 1) (_low : BitVec 10) (s : State) : Result :=
  .next (frameStep 9#4 2#2 pad s)

/-- FRAME_DOC_TABLE_B10_S0 (R203): FLEN 522 or 523. -/
def execFrameDocTableB10S0 (pad : BitVec 1) (_low : BitVec 10) (s : State) : Result :=
  .next (frameStep 10#4 0#2 pad s)

/-- FRAME_DOC_TABLE_B10_S1 (R203): FLEN 480 or 481. -/
def execFrameDocTableB10S1 (pad : BitVec 1) (_low : BitVec 10) (s : State) : Result :=
  .next (frameStep 10#4 1#2 pad s)

/-- FRAME_DOC_TABLE_B10_S2 (R203): FLEN 720 or 721. -/
def execFrameDocTableB10S2 (pad : BitVec 1) (_low : BitVec 10) (s : State) : Result :=
  .next (frameStep 10#4 2#2 pad s)

/-- FRAME_DOC_TABLE_B11_S0 (R203): FLEN 626 or 627. -/
def execFrameDocTableB11S0 (pad : BitVec 1) (_low : BitVec 10) (s : State) : Result :=
  .next (frameStep 11#4 0#2 pad s)

/-- FRAME_DOC_TABLE_B11_S1 (R203): FLEN 576 or 577. -/
def execFrameDocTableB11S1 (pad : BitVec 1) (_low : BitVec 10) (s : State) : Result :=
  .next (frameStep 11#4 1#2 pad s)

/-- FRAME_DOC_TABLE_B11_S2 (R203): FLEN 864 or 865. -/
def execFrameDocTableB11S2 (pad : BitVec 1) (_low : BitVec 10) (s : State) : Result :=
  .next (frameStep 11#4 2#2 pad s)

/-- FRAME_DOC_TABLE_B12_S0 (R203): FLEN 731 or 732. -/
def execFrameDocTableB12S0 (pad : BitVec 1) (_low : BitVec 10) (s : State) : Result :=
  .next (frameStep 12#4 0#2 pad s)

/-- FRAME_DOC_TABLE_B12_S1 (R203): FLEN 672 or 673. -/
def execFrameDocTableB12S1 (pad : BitVec 1) (_low : BitVec 10) (s : State) : Result :=
  .next (frameStep 12#4 1#2 pad s)

/-- FRAME_DOC_TABLE_B12_S2 (R203): FLEN 1008 or 1009. -/
def execFrameDocTableB12S2 (pad : BitVec 1) (_low : BitVec 10) (s : State) : Result :=
  .next (frameStep 12#4 2#2 pad s)

/-- FRAME_DOC_TABLE_B13_S0 (R203): FLEN 835 or 836. -/
def execFrameDocTableB13S0 (pad : BitVec 1) (_low : BitVec 10) (s : State) : Result :=
  .next (frameStep 13#4 0#2 pad s)

/-- FRAME_DOC_TABLE_B13_S1 (R203): FLEN 768 or 769. -/
def execFrameDocTableB13S1 (pad : BitVec 1) (_low : BitVec 10) (s : State) : Result :=
  .next (frameStep 13#4 1#2 pad s)

/-- FRAME_DOC_TABLE_B13_S2 (R203): FLEN 1152 or 1153. -/
def execFrameDocTableB13S2 (pad : BitVec 1) (_low : BitVec 10) (s : State) : Result :=
  .next (frameStep 13#4 2#2 pad s)

/-- FRAME_DOC_TABLE_B14_S0 (R203): FLEN 1044 or 1045. -/
def execFrameDocTableB14S0 (pad : BitVec 1) (_low : BitVec 10) (s : State) : Result :=
  .next (frameStep 14#4 0#2 pad s)

/-- FRAME_DOC_TABLE_B14_S1 (R203): FLEN 960 or 961. -/
def execFrameDocTableB14S1 (pad : BitVec 1) (_low : BitVec 10) (s : State) : Result :=
  .next (frameStep 14#4 1#2 pad s)

/-- FRAME_DOC_TABLE_B14_S2 (R203): FLEN 1440 or 1441. -/
def execFrameDocTableB14S2 (pad : BitVec 1) (_low : BitVec 10) (s : State) : Result :=
  .next (frameStep 14#4 2#2 pad s)

end Sys2Proof.Machine
end

