-- ==== Sys2Proof/Machine/FrameMpegStd.lean ====
section
/-! DEFINITION. The meanings of the 42 FRAME rows under MPEG_STD (spec/44_scan_loop.md R203 to R205): each is the valid
candidate of its own bitrate and sample-rate index. The uninterpreted bits are not read (spec/30_encoding.md
R78). -/

namespace Sys2Proof.Machine

/-- FRAME_MPEG_STD_B1_S0 (R203): FLEN 104 or 105. -/
def execFrameMpegStdB1S0 (_prot pad : BitVec 1) (_low : BitVec 9) (s : State) : Result :=
  .next (frameStep 1#4 0#2 pad s)

/-- FRAME_MPEG_STD_B1_S1 (R203): FLEN 96 or 97. -/
def execFrameMpegStdB1S1 (_prot pad : BitVec 1) (_low : BitVec 9) (s : State) : Result :=
  .next (frameStep 1#4 1#2 pad s)

/-- FRAME_MPEG_STD_B1_S2 (R203): FLEN 144 or 145. -/
def execFrameMpegStdB1S2 (_prot pad : BitVec 1) (_low : BitVec 9) (s : State) : Result :=
  .next (frameStep 1#4 2#2 pad s)

/-- FRAME_MPEG_STD_B2_S0 (R203): FLEN 130 or 131. -/
def execFrameMpegStdB2S0 (_prot pad : BitVec 1) (_low : BitVec 9) (s : State) : Result :=
  .next (frameStep 2#4 0#2 pad s)

/-- FRAME_MPEG_STD_B2_S1 (R203): FLEN 120 or 121. -/
def execFrameMpegStdB2S1 (_prot pad : BitVec 1) (_low : BitVec 9) (s : State) : Result :=
  .next (frameStep 2#4 1#2 pad s)

/-- FRAME_MPEG_STD_B2_S2 (R203): FLEN 180 or 181. -/
def execFrameMpegStdB2S2 (_prot pad : BitVec 1) (_low : BitVec 9) (s : State) : Result :=
  .next (frameStep 2#4 2#2 pad s)

/-- FRAME_MPEG_STD_B3_S0 (R203): FLEN 156 or 157. -/
def execFrameMpegStdB3S0 (_prot pad : BitVec 1) (_low : BitVec 9) (s : State) : Result :=
  .next (frameStep 3#4 0#2 pad s)

/-- FRAME_MPEG_STD_B3_S1 (R203): FLEN 144 or 145. -/
def execFrameMpegStdB3S1 (_prot pad : BitVec 1) (_low : BitVec 9) (s : State) : Result :=
  .next (frameStep 3#4 1#2 pad s)

/-- FRAME_MPEG_STD_B3_S2 (R203): FLEN 216 or 217. -/
def execFrameMpegStdB3S2 (_prot pad : BitVec 1) (_low : BitVec 9) (s : State) : Result :=
  .next (frameStep 3#4 2#2 pad s)

/-- FRAME_MPEG_STD_B4_S0 (R203): FLEN 182 or 183. -/
def execFrameMpegStdB4S0 (_prot pad : BitVec 1) (_low : BitVec 9) (s : State) : Result :=
  .next (frameStep 4#4 0#2 pad s)

/-- FRAME_MPEG_STD_B4_S1 (R203): FLEN 168 or 169. -/
def execFrameMpegStdB4S1 (_prot pad : BitVec 1) (_low : BitVec 9) (s : State) : Result :=
  .next (frameStep 4#4 1#2 pad s)

/-- FRAME_MPEG_STD_B4_S2 (R203): FLEN 252 or 253. -/
def execFrameMpegStdB4S2 (_prot pad : BitVec 1) (_low : BitVec 9) (s : State) : Result :=
  .next (frameStep 4#4 2#2 pad s)

/-- FRAME_MPEG_STD_B5_S0 (R203): FLEN 208 or 209. -/
def execFrameMpegStdB5S0 (_prot pad : BitVec 1) (_low : BitVec 9) (s : State) : Result :=
  .next (frameStep 5#4 0#2 pad s)

/-- FRAME_MPEG_STD_B5_S1 (R203): FLEN 192 or 193. -/
def execFrameMpegStdB5S1 (_prot pad : BitVec 1) (_low : BitVec 9) (s : State) : Result :=
  .next (frameStep 5#4 1#2 pad s)

/-- FRAME_MPEG_STD_B5_S2 (R203): FLEN 288 or 289. -/
def execFrameMpegStdB5S2 (_prot pad : BitVec 1) (_low : BitVec 9) (s : State) : Result :=
  .next (frameStep 5#4 2#2 pad s)

/-- FRAME_MPEG_STD_B6_S0 (R203): FLEN 261 or 262. -/
def execFrameMpegStdB6S0 (_prot pad : BitVec 1) (_low : BitVec 9) (s : State) : Result :=
  .next (frameStep 6#4 0#2 pad s)

/-- FRAME_MPEG_STD_B6_S1 (R203): FLEN 240 or 241. -/
def execFrameMpegStdB6S1 (_prot pad : BitVec 1) (_low : BitVec 9) (s : State) : Result :=
  .next (frameStep 6#4 1#2 pad s)

/-- FRAME_MPEG_STD_B6_S2 (R203): FLEN 360 or 361. -/
def execFrameMpegStdB6S2 (_prot pad : BitVec 1) (_low : BitVec 9) (s : State) : Result :=
  .next (frameStep 6#4 2#2 pad s)

/-- FRAME_MPEG_STD_B7_S0 (R203): FLEN 313 or 314. -/
def execFrameMpegStdB7S0 (_prot pad : BitVec 1) (_low : BitVec 9) (s : State) : Result :=
  .next (frameStep 7#4 0#2 pad s)

/-- FRAME_MPEG_STD_B7_S1 (R203): FLEN 288 or 289. -/
def execFrameMpegStdB7S1 (_prot pad : BitVec 1) (_low : BitVec 9) (s : State) : Result :=
  .next (frameStep 7#4 1#2 pad s)

/-- FRAME_MPEG_STD_B7_S2 (R203): FLEN 432 or 433. -/
def execFrameMpegStdB7S2 (_prot pad : BitVec 1) (_low : BitVec 9) (s : State) : Result :=
  .next (frameStep 7#4 2#2 pad s)

/-- FRAME_MPEG_STD_B8_S0 (R203): FLEN 365 or 366. -/
def execFrameMpegStdB8S0 (_prot pad : BitVec 1) (_low : BitVec 9) (s : State) : Result :=
  .next (frameStep 8#4 0#2 pad s)

/-- FRAME_MPEG_STD_B8_S1 (R203): FLEN 336 or 337. -/
def execFrameMpegStdB8S1 (_prot pad : BitVec 1) (_low : BitVec 9) (s : State) : Result :=
  .next (frameStep 8#4 1#2 pad s)

/-- FRAME_MPEG_STD_B8_S2 (R203): FLEN 504 or 505. -/
def execFrameMpegStdB8S2 (_prot pad : BitVec 1) (_low : BitVec 9) (s : State) : Result :=
  .next (frameStep 8#4 2#2 pad s)

/-- FRAME_MPEG_STD_B9_S0 (R203): FLEN 417 or 418. -/
def execFrameMpegStdB9S0 (_prot pad : BitVec 1) (_low : BitVec 9) (s : State) : Result :=
  .next (frameStep 9#4 0#2 pad s)

/-- FRAME_MPEG_STD_B9_S1 (R203): FLEN 384 or 385. -/
def execFrameMpegStdB9S1 (_prot pad : BitVec 1) (_low : BitVec 9) (s : State) : Result :=
  .next (frameStep 9#4 1#2 pad s)

/-- FRAME_MPEG_STD_B9_S2 (R203): FLEN 576 or 577. -/
def execFrameMpegStdB9S2 (_prot pad : BitVec 1) (_low : BitVec 9) (s : State) : Result :=
  .next (frameStep 9#4 2#2 pad s)

/-- FRAME_MPEG_STD_B10_S0 (R203): FLEN 522 or 523. -/
def execFrameMpegStdB10S0 (_prot pad : BitVec 1) (_low : BitVec 9) (s : State) : Result :=
  .next (frameStep 10#4 0#2 pad s)

/-- FRAME_MPEG_STD_B10_S1 (R203): FLEN 480 or 481. -/
def execFrameMpegStdB10S1 (_prot pad : BitVec 1) (_low : BitVec 9) (s : State) : Result :=
  .next (frameStep 10#4 1#2 pad s)

/-- FRAME_MPEG_STD_B10_S2 (R203): FLEN 720 or 721. -/
def execFrameMpegStdB10S2 (_prot pad : BitVec 1) (_low : BitVec 9) (s : State) : Result :=
  .next (frameStep 10#4 2#2 pad s)

/-- FRAME_MPEG_STD_B11_S0 (R203): FLEN 626 or 627. -/
def execFrameMpegStdB11S0 (_prot pad : BitVec 1) (_low : BitVec 9) (s : State) : Result :=
  .next (frameStep 11#4 0#2 pad s)

/-- FRAME_MPEG_STD_B11_S1 (R203): FLEN 576 or 577. -/
def execFrameMpegStdB11S1 (_prot pad : BitVec 1) (_low : BitVec 9) (s : State) : Result :=
  .next (frameStep 11#4 1#2 pad s)

/-- FRAME_MPEG_STD_B11_S2 (R203): FLEN 864 or 865. -/
def execFrameMpegStdB11S2 (_prot pad : BitVec 1) (_low : BitVec 9) (s : State) : Result :=
  .next (frameStep 11#4 2#2 pad s)

/-- FRAME_MPEG_STD_B12_S0 (R203): FLEN 731 or 732. -/
def execFrameMpegStdB12S0 (_prot pad : BitVec 1) (_low : BitVec 9) (s : State) : Result :=
  .next (frameStep 12#4 0#2 pad s)

/-- FRAME_MPEG_STD_B12_S1 (R203): FLEN 672 or 673. -/
def execFrameMpegStdB12S1 (_prot pad : BitVec 1) (_low : BitVec 9) (s : State) : Result :=
  .next (frameStep 12#4 1#2 pad s)

/-- FRAME_MPEG_STD_B12_S2 (R203): FLEN 1008 or 1009. -/
def execFrameMpegStdB12S2 (_prot pad : BitVec 1) (_low : BitVec 9) (s : State) : Result :=
  .next (frameStep 12#4 2#2 pad s)

/-- FRAME_MPEG_STD_B13_S0 (R203): FLEN 835 or 836. -/
def execFrameMpegStdB13S0 (_prot pad : BitVec 1) (_low : BitVec 9) (s : State) : Result :=
  .next (frameStep 13#4 0#2 pad s)

/-- FRAME_MPEG_STD_B13_S1 (R203): FLEN 768 or 769. -/
def execFrameMpegStdB13S1 (_prot pad : BitVec 1) (_low : BitVec 9) (s : State) : Result :=
  .next (frameStep 13#4 1#2 pad s)

/-- FRAME_MPEG_STD_B13_S2 (R203): FLEN 1152 or 1153. -/
def execFrameMpegStdB13S2 (_prot pad : BitVec 1) (_low : BitVec 9) (s : State) : Result :=
  .next (frameStep 13#4 2#2 pad s)

/-- FRAME_MPEG_STD_B14_S0 (R203): FLEN 1044 or 1045. -/
def execFrameMpegStdB14S0 (_prot pad : BitVec 1) (_low : BitVec 9) (s : State) : Result :=
  .next (frameStep 14#4 0#2 pad s)

/-- FRAME_MPEG_STD_B14_S1 (R203): FLEN 960 or 961. -/
def execFrameMpegStdB14S1 (_prot pad : BitVec 1) (_low : BitVec 9) (s : State) : Result :=
  .next (frameStep 14#4 1#2 pad s)

/-- FRAME_MPEG_STD_B14_S2 (R203): FLEN 1440 or 1441. -/
def execFrameMpegStdB14S2 (_prot pad : BitVec 1) (_low : BitVec 9) (s : State) : Result :=
  .next (frameStep 14#4 2#2 pad s)

end Sys2Proof.Machine
end

