-- ==== Sys2Proof/Machine/RegRead.lean ====
section
/-! DEFINITION. The meanings of the register reads (spec/40_host_interface.md R101). A read is allowed while BUSY and
has no side effect (spec/20_memory.md R57, spec/70_reset_and_hazards.md R272). -/

namespace Sys2Proof.Machine

/-- RD_CTRL (R101). -/
def execRdCtrl (s : State) : Result :=
  .next (returnRead (.word s.ctrlWord) s)

/-- RD_STATUS (R101). -/
def execRdStatus (s : State) : Result :=
  .next (returnRead (.word s.statusWord) s)

/-- RD_LEN (R101). -/
def execRdLen (s : State) : Result :=
  .next (returnRead (.word s.len) s)

/-- RD_COUNT (R101). -/
def execRdCount (s : State) : Result :=
  .next (returnRead (.word s.count) s)

/-- RD_START_POS (R101). -/
def execRdStartPos (s : State) : Result :=
  .next (returnRead (.word s.startPos) s)

/-- RD_END_BOUND (R101). -/
def execRdEndBound (s : State) : Result :=
  .next (returnRead (.word s.endBound) s)

/-- RD_POS (R101). -/
def execRdPos (s : State) : Result :=
  .next (returnRead (.word s.pos) s)

/-- RD_CFG (R101). -/
def execRdCfg (s : State) : Result :=
  .next (returnRead (.word s.cfgWord) s)

/-- RD_BUFMAX (R101). -/
def execRdBufmax (s : State) : Result :=
  .next (returnRead (.word s.cfg.bufMax) s)

/-- RD_RSVD (R101). -/
def execRdRsvd (_off : BitVec 12) (s : State) : Result :=
  .next (returnRead (.word 0) s)

end Sys2Proof.Machine
end

