-- ==== Sys2Proof/Machine/RegWrite.lean ====
section
/-! DEFINITION. The meanings of the register writes (spec/40_host_interface.md R102 to R106) and of the malformed
register access (R109). -/

namespace Sys2Proof.Machine

/-- WR_CTRL (R102, R103): IE is written first, also while BUSY; START is considered after it. -/
def execWrCtrl (v : Word) (s : State) : Result :=
  .next (if startBit v then start (setIe v s) else setIe v s)

/-- WR_STATUS (R104): never refused, also while BUSY. -/
def execWrStatus (v : Word) (s : State) : Result :=
  .next (acknowledge v s)

/-- WR_LEN (R105): refused while BUSY; not checked against P_BUF_MAX. -/
def execWrLen (v : Word) (s : State) : Result :=
  .next (if s.busy then raiseHazard .len s else setLen v s)

/-- WR_RO_COUNT (R106): nothing is written, and HAZ is not set even while BUSY. -/
def execWrRoCount (_v : Word) (s : State) : Result :=
  .next s

/-- WR_RO_START_POS (R106): nothing is written, and HAZ is not set even while BUSY. -/
def execWrRoStartPos (_v : Word) (s : State) : Result :=
  .next s

/-- WR_RO_END_BOUND (R106): nothing is written, and HAZ is not set even while BUSY. -/
def execWrRoEndBound (_v : Word) (s : State) : Result :=
  .next s

/-- WR_RO_POS (R106): nothing is written, and HAZ is not set even while BUSY. -/
def execWrRoPos (_v : Word) (s : State) : Result :=
  .next s

/-- WR_RO_CFG (R106): nothing is written, and HAZ is not set even while BUSY. -/
def execWrRoCfg (_v : Word) (s : State) : Result :=
  .next s

/-- WR_RO_BUFMAX (R106): nothing is written, and HAZ is not set even while BUSY. -/
def execWrRoBufmax (_v : Word) (s : State) : Result :=
  .next s

/-- WR_RSVD (R106): nothing is written, and HAZ is not set even while BUSY. -/
def execWrRsvd (_off : BitVec 12) (_v : Word) (s : State) : Result :=
  .next s

/-- BAD_REG (R109): a read returns 0 and changes nothing; a write changes nothing. -/
def execBadReg (dir : Dir) (_off : BitVec 12) (_width : Nat) (_v : Word) (s : State) : Result :=
  match dir with
  | .read => .next (returnRead (.word 0) s)
  | .write => .next s

end Sys2Proof.Machine
end

