-- ==== Sys2Proof/Machine/Rejection.lean ====
section
/-! DEFINITION. The meanings of the REJECT row and of its named sub-cases (spec/30_encoding.md R77,
spec/44_scan_loop.md R202): "They all take the same action and are not distinguished in any state". -/

namespace Sys2Proof.Machine

/-- REJECT (R202). -/
def execReject (_w : Word) (s : State) : Result :=
  .next (rejectStep s)

/-- REJ_SYNC (R202). -/
def execRejSync (_sync : BitVec 11) (_rest : BitVec 21) (s : State) : Result :=
  .next (rejectStep s)

/-- REJ_VERSION_0 (R202). -/
def execRejVersion0 (_rest : BitVec 19) (s : State) : Result :=
  .next (rejectStep s)

/-- REJ_VERSION_1 (R202). -/
def execRejVersion1 (_rest : BitVec 19) (s : State) : Result :=
  .next (rejectStep s)

/-- REJ_VERSION_2 (R202). -/
def execRejVersion2 (_rest : BitVec 19) (s : State) : Result :=
  .next (rejectStep s)

/-- REJ_LAYER_0 (R202). -/
def execRejLayer0 (_rest : BitVec 17) (s : State) : Result :=
  .next (rejectStep s)

/-- REJ_LAYER_2 (R202). -/
def execRejLayer2 (_rest : BitVec 17) (s : State) : Result :=
  .next (rejectStep s)

/-- REJ_LAYER_3 (R202). -/
def execRejLayer3 (_rest : BitVec 17) (s : State) : Result :=
  .next (rejectStep s)

/-- REJ_FREE_MPEG_STD (R202). -/
def execRejFreeMpegStd (_prot : BitVec 1) (_rest : BitVec 12) (s : State) : Result :=
  .next (rejectStep s)

/-- REJ_BR15_MPEG_STD (R202). -/
def execRejBr15MpegStd (_prot : BitVec 1) (_rest : BitVec 12) (s : State) : Result :=
  .next (rejectStep s)

/-- REJ_SR3_MPEG_STD (R202). -/
def execRejSr3MpegStd (_prot : BitVec 1) (_bri : BitVec 4) (_rest : BitVec 10) (s : State) : Result :=
  .next (rejectStep s)

/-- REJ_FREE_DOC_TABLE (R202). -/
def execRejFreeDocTable (_rest : BitVec 13) (s : State) : Result :=
  .next (rejectStep s)

/-- REJ_BR15_DOC_TABLE (R202). -/
def execRejBr15DocTable (_rest : BitVec 13) (s : State) : Result :=
  .next (rejectStep s)

/-- REJ_SR3_DOC_TABLE (R202). -/
def execRejSr3DocTable (_bri : BitVec 4) (_rest : BitVec 11) (s : State) : Result :=
  .next (rejectStep s)

end Sys2Proof.Machine
end

