-- ==== Sys2Proof/Machine/Tags.lean ====
section
/-! DEFINITION. The meanings of the two tag rows (spec/41_tag_skipper.md). Both make the LEN test of their detection
rule, which the step has made before it reads the marker. -/

namespace Sys2Proof.Machine

/-- ID3V2_MARK (R130 to R132): the start position lies past the header and the declared body. It is not
checked against LEN. -/
def execId3v2Mark (b6 b7 b8 b9 : Byte) (s : State) : Result :=
  if s.roomForId3v2 then .next (setStart (10 + synchsafe b6 b7 b8 b9) s) else .next (setStart 0 s)

/-- ID3V1_MARK (R135, R136): the end boundary lies 128 bytes before LEN. -/
def execId3v1Mark (s : State) : Result :=
  if s.roomForId3v1 then .next (setEnd (s.len.toNat - 128) s) else .next (setEnd s.len.toNat s)

end Sys2Proof.Machine
end

