-- ==== Sys2Proof/Machine/Dispatch.lean ====
section
/-! DEFINITION. exec: one arm per constructor of Instr, each one direct call of its meaning. -/

namespace Sys2Proof.Machine

-- The meaning of every instruction of spec/opcode_table.json, in the table's order.
def exec (i : Instr) (s : State) : Host.Outcome State Fault Refusal :=
  match i with
  | .frameMpegStdB1S0 prot pad low => Sys2Proof.Machine.execFrameMpegStdB1S0 prot pad low s
  | .frameMpegStdB1S1 prot pad low => Sys2Proof.Machine.execFrameMpegStdB1S1 prot pad low s
  | .frameMpegStdB1S2 prot pad low => Sys2Proof.Machine.execFrameMpegStdB1S2 prot pad low s
  | .frameMpegStdB2S0 prot pad low => Sys2Proof.Machine.execFrameMpegStdB2S0 prot pad low s
  | .frameMpegStdB2S1 prot pad low => Sys2Proof.Machine.execFrameMpegStdB2S1 prot pad low s
  | .frameMpegStdB2S2 prot pad low => Sys2Proof.Machine.execFrameMpegStdB2S2 prot pad low s
  | .frameMpegStdB3S0 prot pad low => Sys2Proof.Machine.execFrameMpegStdB3S0 prot pad low s
  | .frameMpegStdB3S1 prot pad low => Sys2Proof.Machine.execFrameMpegStdB3S1 prot pad low s
  | .frameMpegStdB3S2 prot pad low => Sys2Proof.Machine.execFrameMpegStdB3S2 prot pad low s
  | .frameMpegStdB4S0 prot pad low => Sys2Proof.Machine.execFrameMpegStdB4S0 prot pad low s
  | .frameMpegStdB4S1 prot pad low => Sys2Proof.Machine.execFrameMpegStdB4S1 prot pad low s
  | .frameMpegStdB4S2 prot pad low => Sys2Proof.Machine.execFrameMpegStdB4S2 prot pad low s
  | .frameMpegStdB5S0 prot pad low => Sys2Proof.Machine.execFrameMpegStdB5S0 prot pad low s
  | .frameMpegStdB5S1 prot pad low => Sys2Proof.Machine.execFrameMpegStdB5S1 prot pad low s
  | .frameMpegStdB5S2 prot pad low => Sys2Proof.Machine.execFrameMpegStdB5S2 prot pad low s
  | .frameMpegStdB6S0 prot pad low => Sys2Proof.Machine.execFrameMpegStdB6S0 prot pad low s
  | .frameMpegStdB6S1 prot pad low => Sys2Proof.Machine.execFrameMpegStdB6S1 prot pad low s
  | .frameMpegStdB6S2 prot pad low => Sys2Proof.Machine.execFrameMpegStdB6S2 prot pad low s
  | .frameMpegStdB7S0 prot pad low => Sys2Proof.Machine.execFrameMpegStdB7S0 prot pad low s
  | .frameMpegStdB7S1 prot pad low => Sys2Proof.Machine.execFrameMpegStdB7S1 prot pad low s
  | .frameMpegStdB7S2 prot pad low => Sys2Proof.Machine.execFrameMpegStdB7S2 prot pad low s
  | .frameMpegStdB8S0 prot pad low => Sys2Proof.Machine.execFrameMpegStdB8S0 prot pad low s
  | .frameMpegStdB8S1 prot pad low => Sys2Proof.Machine.execFrameMpegStdB8S1 prot pad low s
  | .frameMpegStdB8S2 prot pad low => Sys2Proof.Machine.execFrameMpegStdB8S2 prot pad low s
  | .frameMpegStdB9S0 prot pad low => Sys2Proof.Machine.execFrameMpegStdB9S0 prot pad low s
  | .frameMpegStdB9S1 prot pad low => Sys2Proof.Machine.execFrameMpegStdB9S1 prot pad low s
  | .frameMpegStdB9S2 prot pad low => Sys2Proof.Machine.execFrameMpegStdB9S2 prot pad low s
  | .frameMpegStdB10S0 prot pad low => Sys2Proof.Machine.execFrameMpegStdB10S0 prot pad low s
  | .frameMpegStdB10S1 prot pad low => Sys2Proof.Machine.execFrameMpegStdB10S1 prot pad low s
  | .frameMpegStdB10S2 prot pad low => Sys2Proof.Machine.execFrameMpegStdB10S2 prot pad low s
  | .frameMpegStdB11S0 prot pad low => Sys2Proof.Machine.execFrameMpegStdB11S0 prot pad low s
  | .frameMpegStdB11S1 prot pad low => Sys2Proof.Machine.execFrameMpegStdB11S1 prot pad low s
  | .frameMpegStdB11S2 prot pad low => Sys2Proof.Machine.execFrameMpegStdB11S2 prot pad low s
  | .frameMpegStdB12S0 prot pad low => Sys2Proof.Machine.execFrameMpegStdB12S0 prot pad low s
  | .frameMpegStdB12S1 prot pad low => Sys2Proof.Machine.execFrameMpegStdB12S1 prot pad low s
  | .frameMpegStdB12S2 prot pad low => Sys2Proof.Machine.execFrameMpegStdB12S2 prot pad low s
  | .frameMpegStdB13S0 prot pad low => Sys2Proof.Machine.execFrameMpegStdB13S0 prot pad low s
  | .frameMpegStdB13S1 prot pad low => Sys2Proof.Machine.execFrameMpegStdB13S1 prot pad low s
  | .frameMpegStdB13S2 prot pad low => Sys2Proof.Machine.execFrameMpegStdB13S2 prot pad low s
  | .frameMpegStdB14S0 prot pad low => Sys2Proof.Machine.execFrameMpegStdB14S0 prot pad low s
  | .frameMpegStdB14S1 prot pad low => Sys2Proof.Machine.execFrameMpegStdB14S1 prot pad low s
  | .frameMpegStdB14S2 prot pad low => Sys2Proof.Machine.execFrameMpegStdB14S2 prot pad low s
  | .frameDocTableB1S0 pad low => Sys2Proof.Machine.execFrameDocTableB1S0 pad low s
  | .frameDocTableB1S1 pad low => Sys2Proof.Machine.execFrameDocTableB1S1 pad low s
  | .frameDocTableB1S2 pad low => Sys2Proof.Machine.execFrameDocTableB1S2 pad low s
  | .frameDocTableB2S0 pad low => Sys2Proof.Machine.execFrameDocTableB2S0 pad low s
  | .frameDocTableB2S1 pad low => Sys2Proof.Machine.execFrameDocTableB2S1 pad low s
  | .frameDocTableB2S2 pad low => Sys2Proof.Machine.execFrameDocTableB2S2 pad low s
  | .frameDocTableB3S0 pad low => Sys2Proof.Machine.execFrameDocTableB3S0 pad low s
  | .frameDocTableB3S1 pad low => Sys2Proof.Machine.execFrameDocTableB3S1 pad low s
  | .frameDocTableB3S2 pad low => Sys2Proof.Machine.execFrameDocTableB3S2 pad low s
  | .frameDocTableB4S0 pad low => Sys2Proof.Machine.execFrameDocTableB4S0 pad low s
  | .frameDocTableB4S1 pad low => Sys2Proof.Machine.execFrameDocTableB4S1 pad low s
  | .frameDocTableB4S2 pad low => Sys2Proof.Machine.execFrameDocTableB4S2 pad low s
  | .frameDocTableB5S0 pad low => Sys2Proof.Machine.execFrameDocTableB5S0 pad low s
  | .frameDocTableB5S1 pad low => Sys2Proof.Machine.execFrameDocTableB5S1 pad low s
  | .frameDocTableB5S2 pad low => Sys2Proof.Machine.execFrameDocTableB5S2 pad low s
  | .frameDocTableB6S0 pad low => Sys2Proof.Machine.execFrameDocTableB6S0 pad low s
  | .frameDocTableB6S1 pad low => Sys2Proof.Machine.execFrameDocTableB6S1 pad low s
  | .frameDocTableB6S2 pad low => Sys2Proof.Machine.execFrameDocTableB6S2 pad low s
  | .frameDocTableB7S0 pad low => Sys2Proof.Machine.execFrameDocTableB7S0 pad low s
  | .frameDocTableB7S1 pad low => Sys2Proof.Machine.execFrameDocTableB7S1 pad low s
  | .frameDocTableB7S2 pad low => Sys2Proof.Machine.execFrameDocTableB7S2 pad low s
  | .frameDocTableB8S0 pad low => Sys2Proof.Machine.execFrameDocTableB8S0 pad low s
  | .frameDocTableB8S1 pad low => Sys2Proof.Machine.execFrameDocTableB8S1 pad low s
  | .frameDocTableB8S2 pad low => Sys2Proof.Machine.execFrameDocTableB8S2 pad low s
  | .frameDocTableB9S0 pad low => Sys2Proof.Machine.execFrameDocTableB9S0 pad low s
  | .frameDocTableB9S1 pad low => Sys2Proof.Machine.execFrameDocTableB9S1 pad low s
  | .frameDocTableB9S2 pad low => Sys2Proof.Machine.execFrameDocTableB9S2 pad low s
  | .frameDocTableB10S0 pad low => Sys2Proof.Machine.execFrameDocTableB10S0 pad low s
  | .frameDocTableB10S1 pad low => Sys2Proof.Machine.execFrameDocTableB10S1 pad low s
  | .frameDocTableB10S2 pad low => Sys2Proof.Machine.execFrameDocTableB10S2 pad low s
  | .frameDocTableB11S0 pad low => Sys2Proof.Machine.execFrameDocTableB11S0 pad low s
  | .frameDocTableB11S1 pad low => Sys2Proof.Machine.execFrameDocTableB11S1 pad low s
  | .frameDocTableB11S2 pad low => Sys2Proof.Machine.execFrameDocTableB11S2 pad low s
  | .frameDocTableB12S0 pad low => Sys2Proof.Machine.execFrameDocTableB12S0 pad low s
  | .frameDocTableB12S1 pad low => Sys2Proof.Machine.execFrameDocTableB12S1 pad low s
  | .frameDocTableB12S2 pad low => Sys2Proof.Machine.execFrameDocTableB12S2 pad low s
  | .frameDocTableB13S0 pad low => Sys2Proof.Machine.execFrameDocTableB13S0 pad low s
  | .frameDocTableB13S1 pad low => Sys2Proof.Machine.execFrameDocTableB13S1 pad low s
  | .frameDocTableB13S2 pad low => Sys2Proof.Machine.execFrameDocTableB13S2 pad low s
  | .frameDocTableB14S0 pad low => Sys2Proof.Machine.execFrameDocTableB14S0 pad low s
  | .frameDocTableB14S1 pad low => Sys2Proof.Machine.execFrameDocTableB14S1 pad low s
  | .frameDocTableB14S2 pad low => Sys2Proof.Machine.execFrameDocTableB14S2 pad low s
  | .reject w => Sys2Proof.Machine.execReject w s
  | .rejSync sync rest => Sys2Proof.Machine.execRejSync sync rest s
  | .rejVersion0 rest => Sys2Proof.Machine.execRejVersion0 rest s
  | .rejVersion1 rest => Sys2Proof.Machine.execRejVersion1 rest s
  | .rejVersion2 rest => Sys2Proof.Machine.execRejVersion2 rest s
  | .rejLayer0 rest => Sys2Proof.Machine.execRejLayer0 rest s
  | .rejLayer2 rest => Sys2Proof.Machine.execRejLayer2 rest s
  | .rejLayer3 rest => Sys2Proof.Machine.execRejLayer3 rest s
  | .rejFreeMpegStd prot rest => Sys2Proof.Machine.execRejFreeMpegStd prot rest s
  | .rejBr15MpegStd prot rest => Sys2Proof.Machine.execRejBr15MpegStd prot rest s
  | .rejSr3MpegStd prot bri rest => Sys2Proof.Machine.execRejSr3MpegStd prot bri rest s
  | .rejFreeDocTable rest => Sys2Proof.Machine.execRejFreeDocTable rest s
  | .rejBr15DocTable rest => Sys2Proof.Machine.execRejBr15DocTable rest s
  | .rejSr3DocTable bri rest => Sys2Proof.Machine.execRejSr3DocTable bri rest s
  | .id3v2Mark b6 b7 b8 b9 => Sys2Proof.Machine.execId3v2Mark b6 b7 b8 b9 s
  | .id3v1Mark => Sys2Proof.Machine.execId3v1Mark s
  | .rdCtrl => Sys2Proof.Machine.execRdCtrl s
  | .rdStatus => Sys2Proof.Machine.execRdStatus s
  | .rdLen => Sys2Proof.Machine.execRdLen s
  | .rdCount => Sys2Proof.Machine.execRdCount s
  | .rdStartPos => Sys2Proof.Machine.execRdStartPos s
  | .rdEndBound => Sys2Proof.Machine.execRdEndBound s
  | .rdPos => Sys2Proof.Machine.execRdPos s
  | .rdCfg => Sys2Proof.Machine.execRdCfg s
  | .rdBufmax => Sys2Proof.Machine.execRdBufmax s
  | .rdRsvd off => Sys2Proof.Machine.execRdRsvd off s
  | .wrCtrl v => Sys2Proof.Machine.execWrCtrl v s
  | .wrStatus v => Sys2Proof.Machine.execWrStatus v s
  | .wrLen v => Sys2Proof.Machine.execWrLen v s
  | .wrRoCount v => Sys2Proof.Machine.execWrRoCount v s
  | .wrRoStartPos v => Sys2Proof.Machine.execWrRoStartPos v s
  | .wrRoEndBound v => Sys2Proof.Machine.execWrRoEndBound v s
  | .wrRoPos v => Sys2Proof.Machine.execWrRoPos v s
  | .wrRoCfg v => Sys2Proof.Machine.execWrRoCfg v s
  | .wrRoBufmax v => Sys2Proof.Machine.execWrRoBufmax v s
  | .wrRsvd off v => Sys2Proof.Machine.execWrRsvd off v s
  | .bufWr off b => Sys2Proof.Machine.execBufWr off b s
  | .bufRd off => Sys2Proof.Machine.execBufRd off s
  | .badReg dir off width v => Sys2Proof.Machine.execBadReg dir off width v s

end Sys2Proof.Machine
end

