-- ==== Sys2Proof/Machine/Fetch.lean ====
section
/-! DEFINITION. What a turn does before an instruction runs, and the turns that run none: the next outside
event is taken (spec/20_memory.md R60), or the scanner takes the step of its FSM value (spec/10_state.md
R30): it makes the LEN and guard tests, reads BUFMEM and decodes what it read. -/

namespace Sys2Proof.Machine

/-- A turn either runs a decoded instruction on a state or ends by itself. -/
inductive Turn where
  | run (i : Instr) (s : State)
  | ends (r : Result)

/-- The LEAD_TAG step (R130 to R132): the LEN test first, then the marker, and the size bytes only after
the marker. Bytes 3 to 5 are not read. -/
def leadTagTurn (s : State) : Turn :=
  if s.roomForId3v2 then
    match bufRead3 s 0 with
    | .error f => .ends (.fault f)
    | .ok (m0, m1, m2) =>
      if isId3v2Mark m0 m1 m2 then
        match bufRead4 s 6 with
        | .error f => .ends (.fault f)
        | .ok (b6, b7, b8, b9) => .run (.id3v2Mark b6 b7 b8 b9) s
      else .ends (.next (setStart 0 s))
  else .ends (.next (setStart 0 s))

/-- The TRAIL_TAG step (R135, R136): the LEN test first, then the marker. -/
def trailTagTurn (s : State) : Turn :=
  if s.roomForId3v1 then
    match bufRead3 s (s.len.toNat - 128) with
    | .error f => .ends (.fault f)
    | .ok (m0, m1, m2) =>
      if isId3v1Mark m0 m1 m2 then .run .id3v1Mark s
      else .ends (.next (setEnd s.len.toNat s))
  else .ends (.next (setEnd s.len.toNat s))

/-- The SCAN step up to the decoded candidate (R200): the guard (R201), the bounds test (R207), the fetch
(R151) and the decoding (R155, R165). -/
def scanTurn (s : State) : Turn :=
  if s.guard then
    if s.outOfBounds then .ends (.next (boundsPath s))
    else
      match memRead4 s s.pos.toNat with
      | .error f => .ends (.fault f)
      | .ok w => .run (decodeHdr s.cfg.hdrLayout w) (latchHdr w s)
  else .ends (.next (endScan s))

/-- The scanner's turn (R30). In IDLE it takes no step and holds every register (R245). -/
def scannerTurn (s : State) : Turn :=
  match s.fsm with
  | .idle => .ends (.next s)
  | .leadTag => leadTagTurn s
  | .trailTag => trailTagTurn s
  | .scan => scanTurn s
  | .finish => .ends (.next (finishScan s))

/-- A host access (R100). One outside both windows is not an access to this block and changes nothing in
it (R58); a buffer access that is not a byte is refused by name (R110). -/
def accessTurn (a : BusAccess) (s : State) : Turn :=
  match decodeAccess s.cfg a with
  | .ok i => .run i s
  | .error (.bufAccessNotByte width) => .ends (.refused (.bufAccessNotByte width))
  | .error .outsideWindows => .ends (.next s)

/-- The next turn of the run: the first outside event, and the scanner when none is left (R60, R273). -/
def turn (s : State) : Turn :=
  match s.inputs with
  | [] => scannerTurn (beginTurn [] s)
  | .scannerTurn :: rest => scannerTurn (beginTurn rest s)
  | .access a :: rest => accessTurn a (beginTurn rest s)
  | .rst :: rest => .ends (.next (assertRst (beginTurn rest s)))
  | .powerUp :: rest => .ends (.next (powerUp (beginTurn rest s)))

/-! ## Placing one instruction for the next step -/

/-- The bytes of a word, most significant first (R53). -/
def bytesOfWord (w : Word) : List Byte :=
  [w.extractLsb' 24 8, w.extractLsb' 16 8, w.extractLsb' 8 8, w.extractLsb' 0 8]

/-- A candidate word at POS with the scanner in SCAN and next to move. Where the guard or the bounds test
would keep the fetch from happening, the scan position and the buffer are set so that it happens and the
longest frame fits. -/
def placeCandidate (w : Word) (s : State) : State :=
  let t := if s.guard && !s.outOfBounds then s else { s with pos := 0, len := 2048, endBound := 2048 }
  { storeBytes t.pos.toNat (bytesOfWord w) t with fsm := .scan, inputs := .scannerTurn :: t.inputs }

/-- A leading-tag header at offset 0 with the scanner in LEAD_TAG and next to move. -/
def placeLeadTag (bytes : List Byte) (s : State) : State :=
  { storeBytes 0 bytes s with
    fsm := .leadTag
    len := if s.roomForId3v2 then s.len else 10
    inputs := .scannerTurn :: s.inputs }

/-- A trailing-tag marker at LEN − 128 with the scanner in TRAIL_TAG and next to move. -/
def placeTrailTag (bytes : List Byte) (s : State) : State :=
  let t := if s.roomForId3v1 then s else { s with len := 128 }
  { storeBytes (t.len.toNat - 128) (bytes.take 3) t with
    fsm := .trailTag
    inputs := .scannerTurn :: t.inputs }

/-- A table row's bits where the next step takes its instruction from: the bus for a host row, BUFMEM for
a scanner row. -/
def placeTableWord (s : State) (nbits w : Nat) : State :=
  if nbits ≤ 16 then { s with inputs := .access (tableAccess s.cfg nbits w) :: s.inputs }
  else if nbits ≤ 24 then
    match decodeId3v1 (tableMarkBytes w) with
    | .ok _ => placeTrailTag (tableMarkBytes w) s
    | .error _ => placeLeadTag (tableMarkBytes w) s
  else placeCandidate (BitVec.ofNat 32 w) s

end Sys2Proof.Machine
end

