-- ==== Sys2Proof/Machine/Step.lean ====
section
/-! DEFINITION. One step: one atomic event of the interleaving (spec/20_memory.md R60), a host access, a
scanner step or a reset. -/

namespace Sys2Proof.Machine

/-- What a turn answers: the meaning of its instruction, or what it ended with. -/
def runTurn : Turn → Result
  | .run i s => exec i s
  | .ends r => r

/-- One step: the next turn, and the decoded instruction where the turn gives one. -/
def step (s : State) : Host.Outcome State Fault Refusal := runTurn (turn s)

/-- `s` with a table row's bits placed so that the very next step runs that instruction (log 10). -/
def State.withFetchWord (s : State) (nbits w : Nat) : State := placeTableWord s nbits w

end Sys2Proof.Machine
end

