-- ==== Sys2Proof/Machine/CountFrames.lean ====
section
/-! DEFINITION. The result function of spec/44_scan_loop.md R210, the source's algorithm over a plain list
of bytes: "A model may use it as the specification of a whole scan". The machine does not use it. -/

namespace Sys2Proof.Machine

/-- What a whole scan leaves: START_POS, END_BOUND, POS, COUNT and TRUNC. -/
structure ScanResult where
  startPos : Nat
  endBound : Nat
  pos : Nat
  count : Nat
  trunc : Bool
deriving DecidableEq, Repr

/-- buf[k]. -/
def bufAt (buf : List Byte) (k : Nat) : Byte := buf.getD k 0

/-- The candidate word at an offset of the buffer (R53). -/
def bufWord (buf : List Byte) (p : Nat) : Word :=
  wordOfBytes (bufAt buf p) (bufAt buf (p + 1)) (bufAt buf (p + 2)) (bufAt buf (p + 3))

/-- `start` of R210: past the leading tag, or 0. -/
def leadingStart (buf : List Byte) : Nat :=
  if 10 ≤ buf.length ∧ isId3v2Mark (bufAt buf 0) (bufAt buf 1) (bufAt buf 2) then
    10 + synchsafe (bufAt buf 6) (bufAt buf 7) (bufAt buf 8) (bufAt buf 9)
  else 0

/-- `end` of R210: before the trailing tag, or the length. -/
def trailingBound (buf : List Byte) : Nat :=
  if 128 ≤ buf.length ∧
      isId3v1Mark (bufAt buf (buf.length - 128)) (bufAt buf (buf.length - 127))
        (bufAt buf (buf.length - 126)) then
    buf.length - 128
  else buf.length

/-- The loop of R210 from `pos` and `count`: the last position, the count, and whether the boundary rule
ended it. The first argument bounds the number of candidates. -/
def scanFrom (l : HdrLayout) (buf : List Byte) (bound : Nat) : Nat → Nat → Nat → Nat × Nat × Bool
  | 0, pos, count => (pos, count, false)
  | fuel + 1, pos, count =>
    if pos + 4 < bound then
      let f := hdrFields l (bufWord buf pos)
      if f.valid then
        let next := pos + flen f.bri f.sri f.pad
        if bound ≤ next then (pos, count, true) else scanFrom l buf bound fuel next (count + 1)
      else scanFrom l buf bound fuel (pos + 1) count
    else (pos, count, false)

/-- A whole scan of a buffer. The end boundary bounds the candidates, because each moves the position on
(R209). -/
def scanBuffer (l : HdrLayout) (buf : List Byte) : ScanResult :=
  let start := leadingStart buf
  let bound := trailingBound buf
  let r := scanFrom l buf bound bound start 0
  { startPos := start, endBound := bound, pos := r.1, count := r.2.1, trunc := r.2.2 }

/-- `countFrames(buf, L)` of R210. -/
def countFrames (l : HdrLayout) (buf : List Byte) : Nat := (scanBuffer l buf).count

end Sys2Proof.Machine
end

