-- ==== Sys2Proof/Machine/HostProgram.lean ====
section
/-! DEFINITION. The notation of spec/30_encoding.md R90 to R95 for host programs and buffer images. "It
adds no behaviour: every line expands into host accesses and buffer bytes". -/

namespace Sys2Proof.Machine

/-! ## Host operations (R90) -/

/-- The register names of R90. -/
inductive RegName where
  | ctrl
  | status
  | len
  | count
  | startPos
  | endBound
  | pos
  | cfg
  | bufmax
deriving DecidableEq, Repr

/-- The register offsets of spec/10_state.md R21 to R29. -/
def RegName.offset : RegName → Nat
  | .ctrl => 0x00
  | .status => 0x04
  | .len => 0x08
  | .count => 0x0C
  | .startPos => 0x10
  | .endBound => 0x14
  | .pos => 0x18
  | .cfg => 0x1C
  | .bufmax => 0x20

/-- `WR <reg>, <value>`. -/
def hostWr (c : Config) (r : RegName) (v : Word) : Input := .access (regAccess c .write r.offset v)

/-- `RD <reg>`. -/
def hostRd (c : Config) (r : RegName) : Input := .access (regAccess c .read r.offset 0)

/-- `BUFW <offset>, <byte>`. -/
def hostBufW (c : Config) (off : Word) (b : Byte) : Input := .access (bufAccess c .write off b)

/-- `BUFR <offset>`. -/
def hostBufR (c : Config) (off : Word) : Input := .access (bufAccess c .read off 0)

/-- A platform that splits a wide buffer write into byte writes (R110), in the order it defines. -/
def platformSplitWrite (c : Config) (parts : List (Word × Byte)) : List Input :=
  parts.map fun p => hostBufW c p.1 p.2

/-- A platform that splits a wide buffer read into byte reads (R110), in the order it defines. -/
def platformSplitRead (c : Config) (offs : List Word) : List Input := offs.map (hostBufR c)

/-! ## Pseudo-operations (R91) -/

/-- `START` expands to `WR CTRL, (ie << 1) | 1`. -/
def hostStart (c : Config) (ie : Bool) : Input := hostWr c .ctrl (if ie then 3 else 1)

/-- `WAIT` repeats `RD STATUS`; how often is open in an untimed model, so the number is an argument. -/
def hostWait (c : Config) (reads : Nat) : List Input := List.replicate reads (hostRd c .status)

/-- `WAIT` is over: the last read of STATUS had bit 1 (DONE) set. -/
def waitOver (s : State) : Bool :=
  match s.hostResult with
  | .word v => v.getLsbD 1
  | .byte _ => false
  | .nothing => false

/-- `ACK` expands to `WR STATUS, 0x0000000E`. -/
def hostAck (c : Config) : Input := hostWr c .status 0x0000000E

/-- `BUFW k, image[k]` for every byte of the image, in ascending order from `k`. -/
def hostLoadFrom (c : Config) : Nat → List Byte → List Input
  | _, [] => []
  | k, b :: bs => hostBufW c (BitVec.ofNat 32 k) b :: hostLoadFrom c (k + 1) bs

/-- `LOAD <image>`: the bytes, then `WR LEN, n`. -/
def hostLoad (c : Config) (image : List Byte) : List Input :=
  hostLoadFrom c 0 image ++ [hostWr c .len (BitVec.ofNat 32 image.length)]

/-! ## Buffer images (R92 to R95) -/

/-- `.fill n, b`; `.zero n` is `.fill n, 0`. -/
def imageFill (n : Nat) (b : Byte) : List Byte := List.replicate n b

/-- `.ascii "s"` (R92): the ASCII bytes. DESIGN CHOICE (log 24): a string that holds another character has no
image. -/
def imageAscii (s : String) : Option (List Byte) :=
  if s.toList.all fun ch => decide (ch.toNat < 128) then
    some (s.toList.map fun ch => BitVec.ofNat 8 ch.toNat)
  else none

/-- `.word w`: big-endian. -/
def imageWord (w : Word) : List Byte :=
  [w.extractLsb' 24 8, w.extractLsb' 16 8, w.extractLsb' 8 8, w.extractLsb' 0 8]

/-- The header word of `.frame b, s, d` (R93): the protection bit `k` under MPEG_STD only. -/
def imageFrameWord (l : HdrLayout) (b : BitVec 4) (s : BitVec 2) (d k : BitVec 1) : Word :=
  match l with
  | .mpegStd => packMpegStd k b s d 0
  | .docTable => packDocTable b s d 0

/-- `.frame b, s, d, f, k` (R93): defined only for b in 1 to 14 and s in 0 to 2. -/
def imageFrame (l : HdrLayout) (b : BitVec 4) (s : BitVec 2) (d : BitVec 1) (f : Byte) (k : BitVec 1) :
    Option (List Byte) :=
  if b ≠ 0#4 ∧ b ≠ 15#4 ∧ s ≠ 3#2 then
    some (imageWord (imageFrameWord l b s d k) ++ List.replicate (flen b s d - 4) f)
  else none

/-- `.id3v2 n, f` (R94): defined for n < 2^28. -/
def imageId3v2 (n : Nat) (f : Byte) : Option (List Byte) :=
  if n < 2 ^ 28 then
    some ([0x49#8, 0x44#8, 0x33#8, 3#8, 0#8, 0#8, BitVec.ofNat 8 (n / 2 ^ 21 % 128),
      BitVec.ofNat 8 (n / 2 ^ 14 % 128), BitVec.ofNat 8 (n / 2 ^ 7 % 128), BitVec.ofNat 8 (n % 128)]
      ++ List.replicate n f)
  else none

/-- `.id3v1` (R95). -/
def imageId3v1 : List Byte := [0x54#8, 0x41#8, 0x47#8] ++ List.replicate 125 0#8

end Sys2Proof.Machine
end

