-- ==== Sys2Proof/Machine/Platform.lean ====
section
/-! DEFINITION. Several instances on one platform (spec/60_exceptions.md R243, spec/00_scope.md R15): each
has its own registers, BUFMEM and FSM, they share only the constant ROMs, and the platform tells them apart
by their window addresses. -/

namespace Sys2Proof.Machine

/-- The instances of a platform; P_INSTANCES (R7) is their number. -/
structure Platform where
  instances : List State
deriving DecidableEq, Repr

/-- No bus address belongs to two instances (R243: "The platform tells them apart by their window
addresses."). -/
def Platform.Apart (p : Platform) : Prop :=
  ∀ (j k : Nat) (s t : State), j ≠ k → p.instances[j]? = some s → p.instances[k]? = some t →
    ∀ addr, ¬ (Config.owns s.cfg addr = true ∧ Config.owns t.cfg addr = true)

/-- What R7 and R243 ask of a platform: at least one instance (P_INSTANCES ≥ 1), told apart by their window
addresses. -/
structure Platform.Legal (p : Platform) : Prop where
  /-- P_INSTANCES ≥ 1 (R7). -/
  atLeastOne : 1 ≤ p.instances.length
  apart : p.Apart

/-- A host access is put on the bus: every instance sees it, after the events it already has. -/
def Platform.deliver (a : BusAccess) (p : Platform) : Platform :=
  { instances := p.instances.map fun s => { s with inputs := s.inputs ++ [.access a] } }

/-- Instance `k` takes one step; there is no order among the instances. DESIGN CHOICE (log 22): where that
instance stops by name, the platform's step ends with the same stop. R60 and R66 speak of a fault of the run
of one block, and the spec does not say whether the other instances run on; a platform in which they do is
reached by stepping them and not this one. -/
def Platform.stepInstance (k : Nat) (p : Platform) : Host.Outcome Platform Fault Refusal :=
  match p.instances[k]? with
  | none => .next p
  | some s =>
    match step s with
    | .next t => .next { instances := p.instances.set k t }
    | .fault f => .fault f
    | .refused r => .refused r

end Sys2Proof.Machine
end

