-- ==== Sys2Proof/Safety.lean ====
section
/-! DEFINITION. What the claims call a good state: the invariant that every step keeps, and the condition
under which a scan meets no undefined byte. -/

namespace Sys2Proof.Machine

/-- What holds right after reset and after every step. The register bounds are those of
spec/10_state.md R28, except that LEN is bounded only while a scan runs: R23 and R105 let the host write
any LEN while IDLE (log 8). -/
structure State.Inv (s : State) : Prop where
  /-- The windows do not overlap (decision D3). -/
  windows : s.cfg.wf = true
  /-- BUFMEM is in its canonical form. -/
  bufmemWf : Memory.wf s.bufmem = true
  /-- BUFMEM lists only bytes that exist (R50). -/
  bufmemBelow : Memory.below s.bufmem s.cfg.bufMax.toNat = true
  /-- The written offsets are in their canonical form. -/
  writtenWf : Offsets.wf s.written = true
  /-- BUFMEM holds a byte at every offset written since the last reset. -/
  writtenHeld : ∀ a, s.written.contains a = true → (Memory.read s.bufmem a).isSome = true
  /-- START_POS ≤ 10 + (2^28 − 1) (R28). -/
  startBounded : s.startPos.toNat ≤ 268435465
  /-- END_BOUND ≤ P_BUF_MAX (R28). -/
  boundInBuffer : s.endBound.toNat ≤ s.cfg.bufMax.toNat
  /-- The scan position never lies before the start position. -/
  startLePos : s.startPos.toNat ≤ s.pos.toNat
  /-- POS ≤ max(START_POS, END_BOUND) (R28). -/
  posBounded : s.pos.toNat ≤ max s.startPos.toNat s.endBound.toNat
  /-- Every counted frame moved POS by 96 or more (R184), so COUNT cannot overflow (R28). -/
  countBounded : s.startPos.toNat + 96 * s.count.toNat ≤ s.pos.toNat
  /-- While BUSY, END_BOUND ≤ LEN ≤ P_BUF_MAX (R28). -/
  busyLen : s.busy = true → s.endBound.toNat ≤ s.len.toNat ∧ s.len.toNat ≤ s.cfg.bufMax.toNat
  /-- While BUSY, DONE and ERR are 0 (R102, R206). -/
  busyFlags : s.busy = true → s.status.done = false ∧ s.status.err = false
  /-- TRUNC is set only where the boundary rule ended a scan (R22, R204). -/
  truncEnds : s.status.trunc = true → s.fsm = .idle ∨ s.fsm = .finish
  /-- What an accepted START leaves (R102). -/
  leadStart : s.fsm = .leadTag →
    s.startPos = 0 ∧ s.pos = 0 ∧ s.count = 0 ∧ s.endBound = s.len
  /-- What the LEAD_TAG step leaves (R132). -/
  trailStart : s.fsm = .trailTag → s.pos = s.startPos ∧ s.count = 0 ∧ s.endBound = s.len

/-- Every byte of the buffer, offsets 0 to LEN − 1, was written since the last reset (R66, R265 step 1). -/
def State.Loaded (s : State) : Prop :=
  ∀ k, k < s.len.toNat → (s.loadedByte k).isSome = true

/-- The host has written a buffer to offsets 0 to its length − 1 since the last reset. -/
def State.Holds (s : State) (buf : List Byte) : Prop :=
  ∀ k, k < buf.length → s.loadedByte k = some (bufAt buf k)

end Sys2Proof.Machine
end

