-- ==== Sys2Proof/Certificates/Slice0/Obligations.lean ====
section
/-! DEFINITION. The statements for the provers. Each is about the machine, in states that no run need
reach unless an invariant is named as a premise. -/

open Sys2Proof Sys2Proof.Machine

namespace Sys2Proof.Claims

/-- The scanner takes the next step: it is its turn, or no outside event is left. -/
def ScannerMoves (s : State) : Prop :=
  s.inputs = [] ∨ ∃ rest, s.inputs = .scannerTurn :: rest

/-- Neither RST nor a power-up is the next event. -/
def NotReset (s : State) : Prop :=
  ∀ rest, s.inputs ≠ .rst :: rest ∧ s.inputs ≠ .powerUp :: rest

/-- What a step does to the model's own fields before anything else: the event is taken from the queue and
none is raised yet. -/
def taken (s : State) : State := { s with inputs := s.inputs.tail, event := .none }

/-- A byte that the scanner can read: it exists, and the host has written it since the last reset. -/
def Readable (s : State) (a : Nat) : Prop := ∃ b, bufRead s a = .ok b

/-- A byte that exists (R50) and that the host has not written since the last reset (R66). -/
def Missing (s : State) (a : Nat) : Prop := a < s.cfg.bufMax.toNat ∧ s.loadedByte a = none

/-- What a valid candidate of `n` bytes leaves (R203 to R205), with HDR unspecified at the end of the step
(a free value, log 4). -/
def frameAnswer (n : Nat) (s : State) : State :=
  if s.endBound.toNat ≤ s.pos.toNat + n then
    { s with status := { s.status with trunc := true }, fsm := .finish
             hdr := Config.freeWord s.cfg.regBase s.draws, draws := s.draws + 1 }
  else
    { s with count := s.count + 1, pos := BitVec.ofNat 32 (s.pos.toNat + n)
             hdr := Config.freeWord s.cfg.regBase s.draws, draws := s.draws + 1 }

/-- What a rejected candidate leaves (R202), with HDR unspecified at the end of the step (a free value,
log 4). -/
def rejectAnswer (s : State) : State :=
  { s with pos := s.pos + 1, hdr := Config.freeWord s.cfg.regBase s.draws, draws := s.draws + 1 }

/-- The bits of a candidate that the decoder reads (R71 to R73), the padding bit among them. -/
def readMask : HdrLayout → Word
  | .mpegStd => 0xFFFEFE00
  | .docTable => 0xFFFFFC00

/-- STATUS as R22 and R101 lay it out: TRUNC, HAZ, ERR, DONE, BUSY from bit 4 down. -/
def statusOf (s : State) : Word :=
  (if s.status.trunc then 16 else 0) + (if s.status.haz then 8 else 0) +
    (if s.status.err then 4 else 0) + (if s.status.done then 2 else 0) +
    (if s.fsm = .idle then 0 else 1)

/-- SIZE exactly as R131 writes it. -/
def sizeOfBytes (b6 b7 b8 b9 : Byte) : Nat :=
  ((b6.toNat &&& 0x7F) <<< 21) ||| ((b7.toNat &&& 0x7F) <<< 14) ||| ((b8.toNat &&& 0x7F) <<< 7) |||
    (b9.toNat &&& 0x7F)

/-- The FLEN table of R183, padding 0: bitrate index, then the lengths at 44100, 48000 and 32000 Hz. -/
def flenTable : List (Nat × Nat × Nat × Nat) :=
  [(1, 104, 96, 144), (2, 130, 120, 180), (3, 156, 144, 216), (4, 182, 168, 252),
   (5, 208, 192, 288), (6, 261, 240, 360), (7, 313, 288, 432)] ++
  [(8, 365, 336, 504), (9, 417, 384, 576), (10, 522, 480, 720), (11, 626, 576, 864),
   (12, 731, 672, 1008), (13, 835, 768, 1152), (14, 1044, 960, 1440)]

end Sys2Proof.Claims

open Sys2Proof.Claims

/-! ## Reset and the invariant -/

/-- R260: asserting RST puts the block in the reset state whatever it was doing. The registers are given as
the host reads them; BUFMEM and the parameters stay. HDR is unspecified, so nothing is said of it. -/
def Obligations.RstGivesTheResetValues : Prop :=
  ∀ (s : State) (rest : List Input), s.inputs = .rst :: rest →
    ∃ t, step s = .next t ∧ t.fsm = .idle ∧ t.ctrlWord = 0 ∧ t.statusWord = 0 ∧ t.len = 0 ∧
      t.count = 0 ∧ t.startPos = 0 ∧ t.endBound = 0 ∧ t.pos = 0 ∧ t.irq = false ∧
      t.bufmem = s.bufmem ∧ t.cfg = s.cfg ∧ t.inputs = rest

/-- R261 and R245: the machine right after reset is quiescent: with no outside event it stays as it is, and
no byte of BUFMEM is defined (R66). -/
def Obligations.ResetMachineIsQuiescent : Prop :=
  step State.reset = .next State.reset ∧ State.reset.busy = false ∧ State.reset.irq = false ∧
    State.reset.ctrlWord = 0 ∧ State.reset.statusWord = 0 ∧ State.reset.cfgWord = 0 ∧
    ∀ a, Memory.read State.reset.bufmem a = none

/-- The invariant holds at reset. -/
def Obligations.InvariantHoldsAtReset : Prop := State.reset.Inv

/-- Every step keeps the invariant: BUFMEM and the written offsets stay canonical and inside P_BUF_MAX, the
registers stay inside the bounds of R28, and FSM and STATUS stay consistent. -/
def Obligations.StepKeepsInvariant : Prop :=
  ∀ (s t : State), s.Inv → step s = .next t → t.Inv

/-- The register bounds of R28, clause by clause, with LEN bounded only while BUSY (log 8). -/
def Obligations.InvariantGivesRegisterBounds : Prop :=
  ∀ s : State, s.Inv →
    s.startPos.toNat ≤ 10 + (2 ^ 28 - 1) ∧ s.endBound.toNat ≤ s.cfg.bufMax.toNat ∧
      (s.busy = true → s.endBound.toNat ≤ s.len.toNat ∧ s.len.toNat ≤ s.cfg.bufMax.toNat) ∧
      s.pos.toNat ≤ max s.startPos.toNat s.endBound.toNat ∧
      (s.startPos.toNat ≤ s.endBound.toNat →
        s.count.toNat ≤ (s.endBound.toNat - s.startPos.toNat) / 96) ∧
      (s.endBound.toNat < s.startPos.toNat → s.count = 0)

/-- Expected to FAIL: R28's clause "END_BOUND ≤ LEN ≤ P_BUF_MAX" read literally, "in every reachable
state". R23 lets the host write any LEN while IDLE (log 8). -/
def Obligations.LengthClauseOfRule28InEveryReachableState : Prop :=
  ∀ (inputs : List Input) (n : Nat) (t : State),
    Host.Core.run Sys2Proof.core n { State.reset with inputs := inputs } = .next t →
      t.endBound.toNat ≤ t.len.toNat ∧ t.len.toNat ≤ t.cfg.bufMax.toNat

/-! ## Encoding -/

/-- Decoding the encoding of a well-formed instruction gives it back with every operand, for every
instruction but the class row REJECT, whose words decode to its named sub-cases (log 9, the model's
choice). -/
def Obligations.DecodeOfEncodeIsTheInstruction : Prop :=
  ∀ (c : Config) (i : Instr), c.wf = true → i.WellFormed c = true → (∀ w, i ≠ .reject w) →
    decode c (encode c i) = .ok i

/-- Encoding what a candidate word decodes to gives the word back: the decoder drops no bit, under both
layouts. -/
def Obligations.EncodeOfDecodedCandidateIsTheWord : Prop :=
  ∀ (c : Config) (w : Word), encode c (decodeHdr c.hdrLayout w) = .hdr32 w

/-- R76 and R77: what a candidate word decodes to is well formed. That it is never the class row REJECT, but
always one of R77's named sub-cases where it is rejected, is the model's choice (log 9): the spec's table
lists both. -/
def Obligations.DecodedCandidateIsWellFormed : Prop :=
  ∀ (c : Config) (w : Word), (decodeHdr c.hdrLayout w).WellFormed c = true ∧
    ∀ v, decodeHdr c.hdrLayout w ≠ .reject v

/-- R76: a word is of class FRAME(b, s) exactly when its masked bits match, exactly when V holds with b and
s as its indices; and it is of class REJECT exactly when it matches none. -/
def Obligations.FrameClassIsMaskAndMatch : Prop :=
  ∀ (l : HdrLayout) (w : Word),
    (∀ b s : Nat, 1 ≤ b → b ≤ 14 → s ≤ 2 →
      ((decodeHdr l w).frameRow = some (l, b, s) ↔ w &&& frameMask l = frameMatch l b s) ∧
      ((decodeHdr l w).frameRow = some (l, b, s) ↔
        (hdrFields l w).valid = true ∧ (hdrFields l w).bri.toNat = b ∧ (hdrFields l w).sri.toNat = s)) ∧
    ((decodeHdr l w).frameRow = none ↔ classReject l w = true)

/-- R77 and R202: the named sub-cases of a rejected candidate act as the class row REJECT does, in every
state. -/
def Obligations.RejectedCandidatesActAlike : Prop :=
  ∀ (l : HdrLayout) (w v : Word) (s : State), classReject l w = true →
    exec (decodeHdr l w) s = exec (.reject v) s

/-- R78: the bits the decoder does not read change neither the class, nor the frame length, nor what the
candidate does to any state. -/
def Obligations.UninterpretedBitsChangeNothing : Prop :=
  ∀ (l : HdrLayout) (w v : Word) (s : State), w &&& readMask l = v &&& readMask l →
    (decodeHdr l w).frameRow = (decodeHdr l v).frameRow ∧
      flen (hdrFields l w).bri (hdrFields l w).sri (hdrFields l w).pad =
        flen (hdrFields l v).bri (hdrFields l v).sri (hdrFields l v).pad ∧
      exec (decodeHdr l w) s = exec (decodeHdr l v) s

/-- Words written out bit by bit from R72, R73, R80 and R82 decode to the instruction they stand for. -/
def Obligations.WrittenOutWordsDecode : Prop :=
  decodeHdr .mpegStd 0b11111111111110110101010000000000 = .frameMpegStdB5S1 1 0 0 ∧
  decodeHdr .docTable 0b11111111111110101010100000000000 = .frameDocTableB5S1 0 0 ∧
  decodeHdr .mpegStd 0b11111111111110111110101000000000 = .frameMpegStdB14S2 1 1 0 ∧
  decodeHdr .mpegStd 0b11111111111100110101010000000000 = .rejVersion2 0b0110101010000000000 ∧
  decodeHdr .mpegStd 0b01111111111110110101010000000000 =
    .rejSync 0b01111111111 0b110110101010000000000 ∧
  decodeId3v2 [0x49, 0x44, 0x33, 3, 0, 0, 0, 0, 2, 1] = .ok (.id3v2Mark 0 0 2 1) ∧
  decodeTableWord 16 0b0001000000001000 = some (.wrLen 0)

/-! ## The frame length -/

/-- R183: all 84 frame lengths. The rows of bitrate index 2 to 4 and 6 to 13 rest on the spec's general
knowledge (GK-1; log 7, PRESUMED); the rows 1, 5 and 14 do not. -/
def Obligations.FrameLengthTable : Prop :=
  ∀ row ∈ flenTable, ∀ pad : BitVec 1,
    flen (BitVec.ofNat 4 row.1) 0 pad = row.2.1 + pad.toNat ∧
      flen (BitVec.ofNat 4 row.1) 1 pad = row.2.2.1 + pad.toNat ∧
      flen (BitVec.ofNat 4 row.1) 2 pad = row.2.2.2 + pad.toNat

/-- R184: the range of FLEN over the valid candidates, with both ends reached. -/
def Obligations.FrameLengthRange : Prop :=
  (∀ (l : HdrLayout) (w : Word), (hdrFields l w).valid = true →
    96 ≤ flen (hdrFields l w).bri (hdrFields l w).sri (hdrFields l w).pad ∧
      flen (hdrFields l w).bri (hdrFields l w).sri (hdrFields l w).pad ≤ 1441) ∧
  flen 1 1 0 = 96 ∧ flen 14 2 1 = 1441

/-! ## Candidates -/

/-- R203 to R205 for each of the 42 FRAME rows under MPEG_STD, with the row's frame length as the opcode table
gives it: the boundary rule or the count. The lengths of bitrate index 2 to 4 and 6 to 13 rest on the spec's
general knowledge (GK-1; log 7, PRESUMED). HDR becomes a free word and the counter of free words moves on by
one (log 4, the model's choice); every other field is as before. -/
def Obligations.MpegStdFrameRowsCountOrEndTheScan : Prop :=
  ∀ (s : State) (prot pad : BitVec 1) (low : BitVec 9),
    exec (.frameMpegStdB1S0 prot pad low) s = .next (frameAnswer (104 + pad.toNat) s) ∧
    exec (.frameMpegStdB1S1 prot pad low) s = .next (frameAnswer (96 + pad.toNat) s) ∧
    exec (.frameMpegStdB1S2 prot pad low) s = .next (frameAnswer (144 + pad.toNat) s) ∧
    exec (.frameMpegStdB2S0 prot pad low) s = .next (frameAnswer (130 + pad.toNat) s) ∧
    exec (.frameMpegStdB2S1 prot pad low) s = .next (frameAnswer (120 + pad.toNat) s) ∧
    exec (.frameMpegStdB2S2 prot pad low) s = .next (frameAnswer (180 + pad.toNat) s) ∧
    exec (.frameMpegStdB3S0 prot pad low) s = .next (frameAnswer (156 + pad.toNat) s) ∧
    exec (.frameMpegStdB3S1 prot pad low) s = .next (frameAnswer (144 + pad.toNat) s) ∧
    exec (.frameMpegStdB3S2 prot pad low) s = .next (frameAnswer (216 + pad.toNat) s) ∧
    exec (.frameMpegStdB4S0 prot pad low) s = .next (frameAnswer (182 + pad.toNat) s) ∧
    exec (.frameMpegStdB4S1 prot pad low) s = .next (frameAnswer (168 + pad.toNat) s) ∧
    exec (.frameMpegStdB4S2 prot pad low) s = .next (frameAnswer (252 + pad.toNat) s) ∧
    exec (.frameMpegStdB5S0 prot pad low) s = .next (frameAnswer (208 + pad.toNat) s) ∧
    exec (.frameMpegStdB5S1 prot pad low) s = .next (frameAnswer (192 + pad.toNat) s) ∧
    exec (.frameMpegStdB5S2 prot pad low) s = .next (frameAnswer (288 + pad.toNat) s) ∧
    exec (.frameMpegStdB6S0 prot pad low) s = .next (frameAnswer (261 + pad.toNat) s) ∧
    exec (.frameMpegStdB6S1 prot pad low) s = .next (frameAnswer (240 + pad.toNat) s) ∧
    exec (.frameMpegStdB6S2 prot pad low) s = .next (frameAnswer (360 + pad.toNat) s) ∧
    exec (.frameMpegStdB7S0 prot pad low) s = .next (frameAnswer (313 + pad.toNat) s) ∧
    exec (.frameMpegStdB7S1 prot pad low) s = .next (frameAnswer (288 + pad.toNat) s) ∧
    exec (.frameMpegStdB7S2 prot pad low) s = .next (frameAnswer (432 + pad.toNat) s) ∧
    exec (.frameMpegStdB8S0 prot pad low) s = .next (frameAnswer (365 + pad.toNat) s) ∧
    exec (.frameMpegStdB8S1 prot pad low) s = .next (frameAnswer (336 + pad.toNat) s) ∧
    exec (.frameMpegStdB8S2 prot pad low) s = .next (frameAnswer (504 + pad.toNat) s) ∧
    exec (.frameMpegStdB9S0 prot pad low) s = .next (frameAnswer (417 + pad.toNat) s) ∧
    exec (.frameMpegStdB9S1 prot pad low) s = .next (frameAnswer (384 + pad.toNat) s) ∧
    exec (.frameMpegStdB9S2 prot pad low) s = .next (frameAnswer (576 + pad.toNat) s) ∧
    exec (.frameMpegStdB10S0 prot pad low) s = .next (frameAnswer (522 + pad.toNat) s) ∧
    exec (.frameMpegStdB10S1 prot pad low) s = .next (frameAnswer (480 + pad.toNat) s) ∧
    exec (.frameMpegStdB10S2 prot pad low) s = .next (frameAnswer (720 + pad.toNat) s) ∧
    exec (.frameMpegStdB11S0 prot pad low) s = .next (frameAnswer (626 + pad.toNat) s) ∧
    exec (.frameMpegStdB11S1 prot pad low) s = .next (frameAnswer (576 + pad.toNat) s) ∧
    exec (.frameMpegStdB11S2 prot pad low) s = .next (frameAnswer (864 + pad.toNat) s) ∧
    exec (.frameMpegStdB12S0 prot pad low) s = .next (frameAnswer (731 + pad.toNat) s) ∧
    exec (.frameMpegStdB12S1 prot pad low) s = .next (frameAnswer (672 + pad.toNat) s) ∧
    exec (.frameMpegStdB12S2 prot pad low) s = .next (frameAnswer (1008 + pad.toNat) s) ∧
    exec (.frameMpegStdB13S0 prot pad low) s = .next (frameAnswer (835 + pad.toNat) s) ∧
    exec (.frameMpegStdB13S1 prot pad low) s = .next (frameAnswer (768 + pad.toNat) s) ∧
    exec (.frameMpegStdB13S2 prot pad low) s = .next (frameAnswer (1152 + pad.toNat) s) ∧
    exec (.frameMpegStdB14S0 prot pad low) s = .next (frameAnswer (1044 + pad.toNat) s) ∧
    exec (.frameMpegStdB14S1 prot pad low) s = .next (frameAnswer (960 + pad.toNat) s) ∧
    exec (.frameMpegStdB14S2 prot pad low) s = .next (frameAnswer (1440 + pad.toNat) s)

/-- R203 to R205 for each of the 42 FRAME rows under DOC_TABLE, with the row's frame length as the opcode
table gives it: the boundary rule or the count. The lengths of bitrate index 2 to 4 and 6 to 13 rest on the
spec's general knowledge (GK-1; log 7, PRESUMED). HDR becomes a free word and the counter of free words
moves on by one (log 4, the model's choice); every other field is as before. -/
def Obligations.DocTableFrameRowsCountOrEndTheScan : Prop :=
  ∀ (s : State) (pad : BitVec 1) (low : BitVec 10),
    exec (.frameDocTableB1S0 pad low) s = .next (frameAnswer (104 + pad.toNat) s) ∧
    exec (.frameDocTableB1S1 pad low) s = .next (frameAnswer (96 + pad.toNat) s) ∧
    exec (.frameDocTableB1S2 pad low) s = .next (frameAnswer (144 + pad.toNat) s) ∧
    exec (.frameDocTableB2S0 pad low) s = .next (frameAnswer (130 + pad.toNat) s) ∧
    exec (.frameDocTableB2S1 pad low) s = .next (frameAnswer (120 + pad.toNat) s) ∧
    exec (.frameDocTableB2S2 pad low) s = .next (frameAnswer (180 + pad.toNat) s) ∧
    exec (.frameDocTableB3S0 pad low) s = .next (frameAnswer (156 + pad.toNat) s) ∧
    exec (.frameDocTableB3S1 pad low) s = .next (frameAnswer (144 + pad.toNat) s) ∧
    exec (.frameDocTableB3S2 pad low) s = .next (frameAnswer (216 + pad.toNat) s) ∧
    exec (.frameDocTableB4S0 pad low) s = .next (frameAnswer (182 + pad.toNat) s) ∧
    exec (.frameDocTableB4S1 pad low) s = .next (frameAnswer (168 + pad.toNat) s) ∧
    exec (.frameDocTableB4S2 pad low) s = .next (frameAnswer (252 + pad.toNat) s) ∧
    exec (.frameDocTableB5S0 pad low) s = .next (frameAnswer (208 + pad.toNat) s) ∧
    exec (.frameDocTableB5S1 pad low) s = .next (frameAnswer (192 + pad.toNat) s) ∧
    exec (.frameDocTableB5S2 pad low) s = .next (frameAnswer (288 + pad.toNat) s) ∧
    exec (.frameDocTableB6S0 pad low) s = .next (frameAnswer (261 + pad.toNat) s) ∧
    exec (.frameDocTableB6S1 pad low) s = .next (frameAnswer (240 + pad.toNat) s) ∧
    exec (.frameDocTableB6S2 pad low) s = .next (frameAnswer (360 + pad.toNat) s) ∧
    exec (.frameDocTableB7S0 pad low) s = .next (frameAnswer (313 + pad.toNat) s) ∧
    exec (.frameDocTableB7S1 pad low) s = .next (frameAnswer (288 + pad.toNat) s) ∧
    exec (.frameDocTableB7S2 pad low) s = .next (frameAnswer (432 + pad.toNat) s) ∧
    exec (.frameDocTableB8S0 pad low) s = .next (frameAnswer (365 + pad.toNat) s) ∧
    exec (.frameDocTableB8S1 pad low) s = .next (frameAnswer (336 + pad.toNat) s) ∧
    exec (.frameDocTableB8S2 pad low) s = .next (frameAnswer (504 + pad.toNat) s) ∧
    exec (.frameDocTableB9S0 pad low) s = .next (frameAnswer (417 + pad.toNat) s) ∧
    exec (.frameDocTableB9S1 pad low) s = .next (frameAnswer (384 + pad.toNat) s) ∧
    exec (.frameDocTableB9S2 pad low) s = .next (frameAnswer (576 + pad.toNat) s) ∧
    exec (.frameDocTableB10S0 pad low) s = .next (frameAnswer (522 + pad.toNat) s) ∧
    exec (.frameDocTableB10S1 pad low) s = .next (frameAnswer (480 + pad.toNat) s) ∧
    exec (.frameDocTableB10S2 pad low) s = .next (frameAnswer (720 + pad.toNat) s) ∧
    exec (.frameDocTableB11S0 pad low) s = .next (frameAnswer (626 + pad.toNat) s) ∧
    exec (.frameDocTableB11S1 pad low) s = .next (frameAnswer (576 + pad.toNat) s) ∧
    exec (.frameDocTableB11S2 pad low) s = .next (frameAnswer (864 + pad.toNat) s) ∧
    exec (.frameDocTableB12S0 pad low) s = .next (frameAnswer (731 + pad.toNat) s) ∧
    exec (.frameDocTableB12S1 pad low) s = .next (frameAnswer (672 + pad.toNat) s) ∧
    exec (.frameDocTableB12S2 pad low) s = .next (frameAnswer (1008 + pad.toNat) s) ∧
    exec (.frameDocTableB13S0 pad low) s = .next (frameAnswer (835 + pad.toNat) s) ∧
    exec (.frameDocTableB13S1 pad low) s = .next (frameAnswer (768 + pad.toNat) s) ∧
    exec (.frameDocTableB13S2 pad low) s = .next (frameAnswer (1152 + pad.toNat) s) ∧
    exec (.frameDocTableB14S0 pad low) s = .next (frameAnswer (1044 + pad.toNat) s) ∧
    exec (.frameDocTableB14S1 pad low) s = .next (frameAnswer (960 + pad.toNat) s) ∧
    exec (.frameDocTableB14S2 pad low) s = .next (frameAnswer (1440 + pad.toNat) s)

/-- R202 for the row REJECT and each named sub-case: POS moves on by one byte. HDR becomes a free word and the
counter of free words moves on by one (log 4, the model's choice); every other field is as before. -/
def Obligations.RejectRowsAdvanceByOneByte : Prop :=
  ∀ s : State,
    (∀ (w : Word), exec (.reject w) s = .next (rejectAnswer s)) ∧
    (∀ (sync : BitVec 11) (rest : BitVec 21), exec (.rejSync sync rest) s = .next (rejectAnswer s)) ∧
    (∀ (rest : BitVec 19), exec (.rejVersion0 rest) s = .next (rejectAnswer s)) ∧
    (∀ (rest : BitVec 19), exec (.rejVersion1 rest) s = .next (rejectAnswer s)) ∧
    (∀ (rest : BitVec 19), exec (.rejVersion2 rest) s = .next (rejectAnswer s)) ∧
    (∀ (rest : BitVec 17), exec (.rejLayer0 rest) s = .next (rejectAnswer s)) ∧
    (∀ (rest : BitVec 17), exec (.rejLayer2 rest) s = .next (rejectAnswer s)) ∧
    (∀ (rest : BitVec 17), exec (.rejLayer3 rest) s = .next (rejectAnswer s)) ∧
    (∀ (prot : BitVec 1) (rest : BitVec 12), exec (.rejFreeMpegStd prot rest) s = .next (rejectAnswer s)) ∧
    (∀ (prot : BitVec 1) (rest : BitVec 12), exec (.rejBr15MpegStd prot rest) s = .next (rejectAnswer s)) ∧
    (∀ (prot : BitVec 1) (bri : BitVec 4) (rest : BitVec 10),
      exec (.rejSr3MpegStd prot bri rest) s = .next (rejectAnswer s)) ∧
    (∀ (rest : BitVec 13), exec (.rejFreeDocTable rest) s = .next (rejectAnswer s)) ∧
    (∀ (rest : BitVec 13), exec (.rejBr15DocTable rest) s = .next (rejectAnswer s)) ∧
    (∀ (bri : BitVec 4) (rest : BitVec 11), exec (.rejSr3DocTable bri rest) s = .next (rejectAnswer s))

/-! ## Tag steps -/

/-- R130 to R132 for the row ID3V2_MARK: with LEN ≥ 10, START_POS and POS lie past the header and the
declared body. With a smaller LEN R130 finds no tag and no step runs the row; that its meaning then makes the
LEN test itself and sets both to 0 is the model's choice (log 15). Nothing else changes but FSM. -/
def Obligations.LeadingMarkRowSetsStart : Prop :=
  ∀ (s : State) (b6 b7 b8 b9 : Byte),
    (10 ≤ s.len.toNat → exec (.id3v2Mark b6 b7 b8 b9) s =
        .next { s with startPos := BitVec.ofNat 32 (10 + sizeOfBytes b6 b7 b8 b9)
                       pos := BitVec.ofNat 32 (10 + sizeOfBytes b6 b7 b8 b9), fsm := .trailTag }) ∧
    (s.len.toNat < 10 → exec (.id3v2Mark b6 b7 b8 b9) s =
        .next { s with startPos := 0, pos := 0, fsm := .trailTag }) ∧
    10 + sizeOfBytes b6 b7 b8 b9 < 2 ^ 32

/-- R135 and R136 for the row ID3V1_MARK: with LEN ≥ 128, END_BOUND lies 128 bytes before LEN. With a smaller
LEN R135 finds no tag and no step runs the row; that its meaning then makes the LEN test itself and sets
END_BOUND to LEN is the model's choice (log 15). Nothing else changes but FSM. -/
def Obligations.TrailingMarkRowSetsEnd : Prop :=
  ∀ s : State,
    (128 ≤ s.len.toNat → exec .id3v1Mark s = .next { s with endBound := s.len - 128, fsm := .scan }) ∧
    (s.len.toNat < 128 → exec .id3v1Mark s = .next { s with endBound := s.len, fsm := .scan })

/-- R130 to R132, the LEAD_TAG step: the LEN test, the marker, then the size; the four cases of the
detection. -/
def Obligations.LeadTagStepFixesTheStart : Prop :=
  ∀ s : State, ScannerMoves s → s.fsm = .leadTag →
    (s.len.toNat < 10 →
      step s = .next { taken s with startPos := 0, pos := 0, fsm := .trailTag }) ∧
    (∀ m0 m1 m2 : Byte, 10 ≤ s.len.toNat → bufRead s 0 = .ok m0 → bufRead s 1 = .ok m1 →
      bufRead s 2 = .ok m2 → ¬ (m0 = 0x49 ∧ m1 = 0x44 ∧ m2 = 0x33) →
        step s = .next { taken s with startPos := 0, pos := 0, fsm := .trailTag }) ∧
    (∀ b6 b7 b8 b9 : Byte, 10 ≤ s.len.toNat → bufRead s 0 = .ok 0x49 → bufRead s 1 = .ok 0x44 →
      bufRead s 2 = .ok 0x33 → bufRead s 6 = .ok b6 → bufRead s 7 = .ok b7 → bufRead s 8 = .ok b8 →
      bufRead s 9 = .ok b9 →
        step s = .next { taken s with
          startPos := BitVec.ofNat 32 (10 + sizeOfBytes b6 b7 b8 b9)
          pos := BitVec.ofNat 32 (10 + sizeOfBytes b6 b7 b8 b9), fsm := .trailTag })

/-- R135 and R136, the TRAIL_TAG step: the LEN test, then the marker at LEN − 128. -/
def Obligations.TrailTagStepFixesTheEnd : Prop :=
  ∀ s : State, ScannerMoves s → s.fsm = .trailTag →
    (s.len.toNat < 128 → step s = .next { taken s with endBound := s.len, fsm := .scan }) ∧
    (∀ m0 m1 m2 : Byte, 128 ≤ s.len.toNat → bufRead s (s.len.toNat - 128) = .ok m0 →
      bufRead s (s.len.toNat - 127) = .ok m1 → bufRead s (s.len.toNat - 126) = .ok m2 →
        step s = .next { taken s with
          endBound := if m0 = 0x54 ∧ m1 = 0x41 ∧ m2 = 0x47 then s.len - 128 else s.len
          fsm := .scan })

/-! ## Scan loop -/

/-- R201: where the guard fails the scan ends, nothing is read and nothing else changes; and it fails for
every END_BOUND of at most 4. -/
def Obligations.GuardFailureEndsTheScan : Prop :=
  ∀ s : State, ScannerMoves s → s.fsm = .scan →
    (¬ s.pos.toNat + 4 < s.endBound.toNat → step s = .next { taken s with fsm := .finish }) ∧
    (s.endBound.toNat ≤ 4 → step s = .next { taken s with fsm := .finish })

/-- R207: the bounds path gives COUNT 0 and no status bit, and no state that meets the invariant takes
it. -/
def Obligations.BoundsPathGivesZeroAndIsUnreachable : Prop :=
  ∀ s : State, s.fsm = .scan → s.pos.toNat + 4 < s.endBound.toNat →
    (ScannerMoves s → s.len.toNat ≤ s.pos.toNat + 3 →
      step s = .next { taken s with count := 0, fsm := .finish, event := .bounds }) ∧
    (s.Inv → s.pos.toNat + 3 < s.len.toNat)

/-- R206: FINISH sets DONE, returns to IDLE and keeps the results; the interrupt line then shows IE. -/
def Obligations.FinishReportsTheResult : Prop :=
  ∀ s : State, ScannerMoves s → s.fsm = .finish →
    ∃ t, step s = .next t ∧ t.irq = s.ie ∧ t.busy = false ∧
      t = { taken s with status := { s.status with done := true }, fsm := .idle, event := .done }

/-- R66 and ID-6: a scanner read of a byte that exists but was not written since the last reset is a fault of
the run, for every byte the scanner reads: bytes 0 to 2 and, after the marker, the size bytes 6 to 9 of the
leading-tag check, the bytes LEN − 128 to LEN − 126 of the trailing-tag check, and the four bytes of a
candidate. Bytes are read in ascending order (R53), so the first missing one is named. That RST counts as a
reset here is log 5, and that the later marker bytes are read whatever the first one is, is the model's
choice (log 6). -/
def Obligations.ScannerReadOfUnwrittenByteFaults : Prop :=
  ∀ s : State, ScannerMoves s →
    (s.fsm = .leadTag → 10 ≤ s.len.toNat →
      (∀ k, k < 3 → (∀ j, j < k → Readable s j) → Missing s k →
        step s = .fault (.unwrittenByte k)) ∧
      (bufRead s 0 = .ok 0x49 → bufRead s 1 = .ok 0x44 → bufRead s 2 = .ok 0x33 →
        ∀ k, 6 ≤ k → k ≤ 9 → (∀ j, 6 ≤ j → j < k → Readable s j) → Missing s k →
          step s = .fault (.unwrittenByte k))) ∧
    (s.fsm = .trailTag → 128 ≤ s.len.toNat →
      ∀ k, k < 3 → (∀ j, j < k → Readable s (s.len.toNat - 128 + j)) →
        Missing s (s.len.toNat - 128 + k) → step s = .fault (.unwrittenByte (s.len.toNat - 128 + k))) ∧
    (s.fsm = .scan → s.pos.toNat + 4 < s.endBound.toNat → s.pos.toNat + 3 < s.len.toNat →
      ∀ k, k < 4 → (∀ j, j < k → Readable s (s.pos.toNat + j)) → Missing s (s.pos.toNat + k) →
        step s = .fault (.unwrittenByte (s.pos.toNat + k)))

/-- R231: in a state that meets the invariant and whose buffer was written since the last reset, the
scanner's turn always gives a next state, and no byte content sets ERR or HAZ. -/
def Obligations.NoContentStopsTheScanner : Prop :=
  ∀ s : State, s.Inv → s.Loaded → ScannerMoves s →
    ∃ t, step s = .next t ∧ t.status.err = s.status.err ∧ t.status.haz = s.status.haz

/-- R209, one step: a SCAN step ends the scan, or it stays in SCAN and POS has moved on by 1 or by at least
96. -/
def Obligations.ScanStepEndsOrMovesOn : Prop :=
  ∀ s t : State, ScannerMoves s → s.fsm = .scan → step s = .next t →
    t.fsm = .finish ∨
      (t.fsm = .scan ∧
        ((t.pos.toNat = s.pos.toNat + 1 ∧ t.count = s.count) ∨
          (s.pos.toNat + 96 ≤ t.pos.toNat ∧ t.count = s.count + 1)))

/-- R210 and R209: from an accepted START with a written buffer the scanner alone reaches IDLE with DONE,
within the step bound, and COUNT is `countFrames` of the buffer, START_POS, END_BOUND, POS and TRUNC those
of the source's algorithm. -/
def Obligations.ScanComputesCountFrames : Prop :=
  ∀ (s : State) (buf : List Byte) (v : Word), s.fsm = .idle → startBit v = true → s.inputs = [] →
    s.len.toNat = buf.length → buf.length ≤ s.cfg.bufMax.toNat → s.Holds buf →
    ∃ (t u : State) (n : Nat), exec (.wrCtrl v) s = .next t ∧
      n ≤ (trailingBound buf - 4 - leadingStart buf) + 1 + 3 ∧
      Host.Core.run Sys2Proof.core n t = .next u ∧ u.fsm = .idle ∧ u.status.done = true ∧
      u.status.err = false ∧ u.count.toNat = countFrames s.cfg.hdrLayout buf ∧
      u.startPos.toNat = (scanBuffer s.cfg.hdrLayout buf).startPos ∧
      u.endBound.toNat = (scanBuffer s.cfg.hdrLayout buf).endBound ∧
      u.pos.toNat = (scanBuffer s.cfg.hdrLayout buf).pos ∧
      u.status.trunc = (scanBuffer s.cfg.hdrLayout buf).trunc

/-- R211: short and all-zero buffers count 0, and the source's 192-byte frame counts 0 alone and 1 with any
number of zero bytes after it. -/
def Obligations.CountFramesCornerCases : Prop :=
  (∀ (l : HdrLayout) (buf : List Byte), buf.length ≤ 4 → countFrames l buf = 0) ∧
  (∀ (l : HdrLayout) (n : Nat), countFrames l (List.replicate n 0) = 0) ∧
  (∀ k : Nat, countFrames .mpegStd
      ([0xFF, 0xFB, 0x54, 0x00] ++ List.replicate 188 0 ++ List.replicate k 0) = if k = 0 then 0 else 1)

/-- R212, the leading tag: a well-formed leading tag before a stream does not change the count, under the
rule's preconditions 1 and 2. -/
def Obligations.LeadingTagIsTransparent : Prop :=
  ∀ (l : HdrLayout) (n : Nat) (f : Byte) (tag stream : List Byte), imageId3v2 n f = some tag →
    ¬ (stream.take 3 = [0x49, 0x44, 0x33]) →
    (stream.length < 128 → 128 ≤ (tag ++ stream).length →
      ¬ (((tag ++ stream).drop ((tag ++ stream).length - 128)).take 3 = [0x54, 0x41, 0x47])) →
    countFrames l (tag ++ stream) = countFrames l stream

/-- R212, the trailing tag: a 128-byte trailing tag after a stream does not change the count, under the
rule's preconditions 1 and 3. -/
def Obligations.TrailingTagIsTransparent : Prop :=
  ∀ (l : HdrLayout) (stream body : List Byte), body.length = 125 →
    ¬ (stream.take 3 = [0x49, 0x44, 0x33]) →
    (128 ≤ stream.length → ¬ ((stream.drop (stream.length - 128)).take 3 = [0x54, 0x41, 0x47])) →
    countFrames l (stream ++ ([0x54, 0x41, 0x47] ++ body)) = countFrames l stream

/-- R93, R204 and R205: the notation's frame has the row and the length of its operands; alone it ends on the
end boundary and is not counted, and one byte after it makes it count. -/
def Obligations.AssembledFrameCountsWithOneByteAfterIt : Prop :=
  ∀ (l : HdrLayout) (b : BitVec 4) (r : BitVec 2) (d k : BitVec 1) (f x : Byte) (image : List Byte),
    imageFrame l b r d f k = some image →
    image.length = flen b r d ∧
      (decodeHdr l (bufWord image 0)).frameRow = some (l, b.toNat, r.toNat) ∧
      countFrames l image = 0 ∧ countFrames l (image ++ [x]) = 1

/-! ## Host operations -/

/-- R101: what each register read returns, bit by bit for CTRL and STATUS; a read changes nothing else. -/
def Obligations.RegisterReadsReturnTheRegister : Prop :=
  ∀ (s : State) (off : BitVec 12),
    exec .rdCtrl s = .next { s with hostResult := .word (if s.ie then 2 else 0) } ∧
    exec .rdStatus s = .next { s with hostResult := .word (statusOf s) } ∧
    exec .rdLen s = .next { s with hostResult := .word s.len } ∧
    exec .rdCount s = .next { s with hostResult := .word s.count } ∧
    exec .rdStartPos s = .next { s with hostResult := .word s.startPos } ∧
    exec .rdEndBound s = .next { s with hostResult := .word s.endBound } ∧
    exec .rdPos s = .next { s with hostResult := .word s.pos } ∧
    exec .rdCfg s =
      .next { s with hostResult := .word (if s.cfg.hdrLayout = .docTable then 1 else 0) } ∧
    exec .rdBufmax s = .next { s with hostResult := .word s.cfg.bufMax } ∧
    exec (.rdRsvd off) s = .next { s with hostResult := .word 0 }

/-- R102 and R103: a write of CTRL always sets IE; START = 1 is then a hazard while BUSY, a contract error
where LEN exceeds P_BUF_MAX, and an accepted START otherwise, with every register as the rules give it. That
a contract error clears HAZ is R103, where the lists of R22, R234 and D13 do not name it (log 23, the
model's reading); the position registers follow R103 too (log 16). -/
def Obligations.WriteOfCtrlStartsAScan : Prop :=
  ∀ (s : State) (v : Word),
    (v.getLsbD 0 = false → exec (.wrCtrl v) s = .next { s with ie := v.getLsbD 1 }) ∧
    (v.getLsbD 0 = true → s.fsm ≠ .idle →
      exec (.wrCtrl v) s = .next { s with
        ie := v.getLsbD 1, status := { s.status with haz := true }, event := .hostHazard .start }) ∧
    (v.getLsbD 0 = true → s.fsm = .idle → s.cfg.bufMax.toNat < s.len.toNat →
      exec (.wrCtrl v) s = .next { s with
        ie := v.getLsbD 1
        status := { done := true, err := true, haz := false, trunc := false }
        count := 0, startPos := 0, endBound := 0, pos := 0, event := .contractError s.len }) ∧
    (v.getLsbD 0 = true → s.fsm = .idle → s.len.toNat ≤ s.cfg.bufMax.toNat →
      exec (.wrCtrl v) s = .next { s with
        ie := v.getLsbD 1, status := { done := false, err := false, haz := false, trunc := false }
        count := 0, startPos := 0, pos := 0, endBound := s.len, fsm := .leadTag })

/-- R104: a write of STATUS clears DONE, ERR and HAZ where the written bit is 1, also while BUSY; BUSY,
TRUNC and all else stay. -/
def Obligations.WriteOfStatusClearsWrittenBits : Prop :=
  ∀ (s : State) (v : Word),
    exec (.wrStatus v) s = .next { s with status :=
      { done := if v.getLsbD 1 then false else s.status.done
        err := if v.getLsbD 2 then false else s.status.err
        haz := if v.getLsbD 3 then false else s.status.haz
        trunc := s.status.trunc } }

/-- R105: a write of LEN takes any value while IDLE, and is a hazard while BUSY. -/
def Obligations.WriteOfLenOnlyWhileIdle : Prop :=
  ∀ (s : State) (v : Word),
    (s.fsm = .idle → exec (.wrLen v) s = .next { s with len := v }) ∧
    (s.fsm ≠ .idle → exec (.wrLen v) s = .next { s with
      status := { s.status with haz := true }, event := .hostHazard .len })

/-- R106: a write of a read-only or reserved register changes nothing, HAZ included, also while BUSY. -/
def Obligations.ReadOnlyWritesAreIgnored : Prop :=
  ∀ (s : State) (off : BitVec 12) (v : Word),
    exec (.wrRoCount v) s = .next s ∧ exec (.wrRoStartPos v) s = .next s ∧
    exec (.wrRoEndBound v) s = .next s ∧ exec (.wrRoPos v) s = .next s ∧
    exec (.wrRoCfg v) s = .next s ∧ exec (.wrRoBufmax v) s = .next s ∧
    exec (.wrRsvd off v) s = .next s

/-- R107: a buffer write while IDLE stores its byte at its offset, for every offset that exists, and changes
no other byte and nothing else; that offset, and no other, now counts as written since reset (R66; log 5).
While BUSY it is a hazard. -/
def Obligations.BufferWriteStoresOneByte : Prop :=
  ∀ (s : State) (off : Word) (b : Byte), off.toNat < s.cfg.bufMax.toNat →
    (s.fsm = .idle → ∃ (m : Memory) (w : Offsets),
      exec (.bufWr off b) s = .next { s with bufmem := m, written := w } ∧
      Memory.read m off.toNat = some b ∧ w.contains off.toNat = true ∧
      ∀ a, a ≠ off.toNat →
        Memory.read m a = Memory.read s.bufmem a ∧ w.contains a = s.written.contains a) ∧
    (s.fsm ≠ .idle → exec (.bufWr off b) s = .next { s with
      status := { s.status with haz := true }, event := .hostHazard .buf })

/-- R108: a buffer read returns the byte, also while BUSY; a byte not written since power-up returns a
free value (log 3; that RST keeps a byte for the host is log 5). Nothing else changes. -/
def Obligations.BufferReadReturnsTheByte : Prop :=
  ∀ (s : State) (off : Word), off.toNat < s.cfg.bufMax.toNat →
    (∀ b, Memory.read s.bufmem off.toNat = some b →
      exec (.bufRd off) s = .next { s with hostResult := .byte b }) ∧
    (Memory.read s.bufmem off.toNat = none →
      exec (.bufRd off) s =
        .next { s with hostResult := .byte (Config.freeByte s.cfg.regBase s.powerUps off.toNat) })

/-- R50 and R83: a byte at an offset of P_BUF_MAX or more does not exist, and no bus access decodes to an
access of it. That the two meanings, which no step then runs, stop on such an offset by name is the model's
choice (log 15). -/
def Obligations.BufferAccessStaysInsideTheCapacity : Prop :=
  (∀ (c : Config) (a : BusAccess) (off : Word) (b : Byte),
    (decodeAccess c a = .ok (.bufWr off b) → off.toNat < c.bufMax.toNat) ∧
    (decodeAccess c a = .ok (.bufRd off) → off.toNat < c.bufMax.toNat)) ∧
  (∀ (s : State) (off : Word) (b : Byte), s.cfg.bufMax.toNat ≤ off.toNat →
    exec (.bufWr off b) s = .fault (.noSuchByte off.toNat) ∧
    exec (.bufRd off) s = .fault (.noSuchByte off.toNat))

/-- R91, the expansion of LOAD: from IDLE, the accesses write the image from offset 0 on and then LEN; no
other byte and no other register changes. -/
def Obligations.LoadWritesTheImageAndItsLength : Prop :=
  ∀ (s : State) (image : List Byte) (rest : List Input), s.fsm = .idle → s.cfg.wf = true →
    image.length ≤ s.cfg.bufMax.toNat → s.inputs = hostLoad s.cfg image ++ rest →
    ∃ t, Host.Core.run Sys2Proof.core (image.length + 1) s = .next t ∧ t.Holds image ∧
      (∀ a, image.length ≤ a → Memory.read t.bufmem a = Memory.read s.bufmem a ∧
        t.written.contains a = s.written.contains a) ∧
      t = { s with len := BitVec.ofNat 32 image.length, bufmem := t.bufmem, written := t.written
                   inputs := rest, event := .none }

/-- R109: an access to the register window that is not an aligned 32-bit one is BAD_REG, whatever register
it points at; a read of it returns 0, and it changes nothing else. That an access belongs to the window its
first address lies in, also where it runs over the window's end, and to the register window where the two
windows overlapped, is the model's choice (log 11). -/
def Obligations.MalformedRegisterAccessIsHarmless : Prop :=
  (∀ (c : Config) (a : BusAccess), c.regBase ≤ a.addr → a.addr < c.regBase + 0x1000 →
    (a.width ≠ 32 ∨ (a.addr - c.regBase) % 4 ≠ 0) →
    decodeAccess c a =
      .ok (.badReg a.dir (BitVec.ofNat 12 (a.addr - c.regBase)) a.width a.data)) ∧
  (∀ (s : State) (off : BitVec 12) (width : Nat) (v : Word),
    exec (.badReg .read off width v) s = .next { s with hostResult := .word 0 } ∧
    exec (.badReg .write off width v) s = .next s)

/-- R110: a buffer-window access that is not 8 bits wide is refused by name. R110 speaks of accesses wider
than 8 bits and lets a platform split them; that this machine refuses them, and refuses every other width
with them, is the model's choice (log 13). -/
def Obligations.WideBufferAccessIsRefused : Prop :=
  ∀ (s : State) (a : BusAccess) (rest : List Input), s.cfg.wf = true → s.inputs = .access a :: rest →
    s.cfg.bufBase ≤ a.addr → a.addr < s.cfg.bufBase + s.cfg.bufMax.toNat → a.width ≠ 8 →
    step s = .refused (.bufAccessNotByte a.width)

/-- R58: an access outside both windows is not an access to this block. That the step then takes it from the
bus and changes nothing, the host's last result included, is the model's reading of R58 (log 12, DEDUCED); and
that an access whose first address lies outside is outside, though it may reach into a window, is the model's
choice (log 11). -/
def Obligations.AccessOutsideTheWindowsChangesNothing : Prop :=
  ∀ (s : State) (a : BusAccess) (rest : List Input), s.inputs = .access a :: rest →
    s.cfg.owns a.addr = false → step s = .next (taken s)

/-- R32 and R235: the interrupt line is DONE and IE, and when it falls and rises: an acknowledge of DONE, a
write of IE = 0 and an accepted START leave it low; a write of IE = 1 without START shows DONE; a contract
error with IE = 1 raises it at once. -/
def Obligations.InterruptLineFollowsDoneAndEnable : Prop :=
  ∀ (s t : State) (v : Word),
    (s.irq = true ↔ s.status.done = true ∧ s.ie = true) ∧
    (exec (.wrStatus v) s = .next t → v.getLsbD 1 = true → t.irq = false) ∧
    (exec (.wrCtrl v) s = .next t → v.getLsbD 1 = false → t.irq = false) ∧
    (exec (.wrCtrl v) s = .next t → v.getLsbD 0 = false → t.irq = (s.status.done && v.getLsbD 1)) ∧
    (exec (.wrCtrl v) s = .next t → v.getLsbD 0 = true → s.fsm = .idle →
      s.len.toNat ≤ s.cfg.bufMax.toNat → t.irq = false) ∧
    (exec (.wrCtrl v) s = .next t → v.getLsbD 0 = true → s.fsm = .idle →
      s.cfg.bufMax.toNat < s.len.toNat → t.irq = v.getLsbD 1)

/-! ## Frames and whole-machine rules -/

/-- The frame of every instruction but BUF_WR: no byte of BUFMEM changes, nor which bytes count as written,
the parameters, the events still to come or the power-up number. -/
def Obligations.OnlyBufferWriteChangesBufmem : Prop :=
  ∀ (i : Instr) (s t : State), (∀ off b, i ≠ .bufWr off b) → exec i s = .next t →
    (∀ a, Memory.read t.bufmem a = Memory.read s.bufmem a) ∧ t.written = s.written ∧ t.cfg = s.cfg ∧
      t.inputs = s.inputs ∧ t.powerUps = s.powerUps

/-- The frame of the registers: LEN changes only by WR_LEN, IE only by WR_CTRL, and the scan registers and
TRUNC only by the scanner's rows and WR_CTRL. -/
def Obligations.RegistersChangeOnlyByTheirInstructions : Prop :=
  ∀ (i : Instr) (s t : State), exec i s = .next t →
    ((∀ v, i ≠ .wrLen v) → t.len = s.len) ∧
    ((∀ v, i ≠ .wrCtrl v) → t.ie = s.ie) ∧
    (∀ a : BusAccess, decodeAccess s.cfg a = .ok i → (∀ v, i ≠ .wrCtrl v) →
      t.count = s.count ∧ t.startPos = s.startPos ∧ t.endBound = s.endBound ∧ t.pos = s.pos ∧
        t.fsm = s.fsm ∧ t.status.trunc = s.status.trunc ∧ t.hdr = s.hdr)

/-- R61: while BUSY no step but a reset changes a byte of BUFMEM or LEN. -/
def Obligations.BufferAndLengthAreFixedWhileBusy : Prop :=
  ∀ s t : State, s.busy = true → NotReset s → step s = .next t →
    t.bufmem = s.bufmem ∧ t.written = s.written ∧ t.len = s.len ∧ t.cfg = s.cfg

/-- R234: while BUSY no host access changes anything the scan works with, nor DONE or TRUNC, except that a
write of STATUS may clear DONE and ERR. -/
def Obligations.HostCannotDisturbAScan : Prop :=
  ∀ (s t : State) (a : BusAccess) (rest : List Input), s.busy = true → s.inputs = .access a :: rest →
    step s = .next t →
    t.fsm = s.fsm ∧ t.count = s.count ∧ t.startPos = s.startPos ∧ t.endBound = s.endBound ∧
      t.pos = s.pos ∧ t.len = s.len ∧ t.bufmem = s.bufmem ∧ t.written = s.written ∧
      t.cfg = s.cfg ∧ t.status.trunc = s.status.trunc ∧ (s.status.done = false → t.status.done = false) ∧
      (s.status.err = false → t.status.err = false)

/-- R234: HAZ does not affect the scan: the scanner's turn does the same whatever HAZ is, and keeps it. -/
def Obligations.HazardFlagDoesNotAffectTheScan : Prop :=
  ∀ (s : State) (h : Bool), ScannerMoves s →
    (∀ t, step s = .next t →
      step { s with status := { s.status with haz := h } } =
        .next { t with status := { t.status with haz := h } }) ∧
    (∀ f, step s = .fault f → step { s with status := { s.status with haz := h } } = .fault f)

/-- R56: the scanner reads no byte at an offset of LEN or more: its turn does the same, fault or not, whatever
BUFMEM holds there and whether it was written, in every state. -/
def Obligations.ScannerReadsOnlyTheBuffer : Prop :=
  ∀ (s : State) (m : Memory) (w : Offsets), ScannerMoves s →
    (∀ a, a < s.len.toNat →
      State.loadedByte { s with bufmem := m, written := w } a = s.loadedByte a) →
    (∀ t, step s = .next t →
      step { s with bufmem := m, written := w } = .next { t with bufmem := m, written := w }) ∧
    (∀ f, step s = .fault f → step { s with bufmem := m, written := w } = .fault f)

/-- R30, R102 and R245: only an accepted START leaves IDLE: a write of CTRL with START = 1 and a LEN of at
most P_BUF_MAX. -/
def Obligations.OnlyStartLeavesIdle : Prop :=
  ∀ s t : State, s.fsm = .idle → step s = .next t → t.fsm ≠ .idle →
    t.fsm = .leadTag ∧ ∃ (a : BusAccess) (rest : List Input) (v : Word),
      s.inputs = .access a :: rest ∧ decodeAccess s.cfg a = .ok (.wrCtrl v) ∧ v.getLsbD 0 = true ∧
      s.len.toNat ≤ s.cfg.bufMax.toNat

/-- R30, R62 and R245: in IDLE the scanner's turn changes no register and no byte of BUFMEM, and whatever the
host does the results stay until a write of CTRL with START = 1 or a reset. -/
def Obligations.IdleKeepsTheResults : Prop :=
  ∀ s : State, s.fsm = .idle →
    (ScannerMoves s → step s = .next (taken s)) ∧
    (∀ t : State, NotReset s →
      (∀ (a : BusAccess) (rest : List Input) (v : Word), s.inputs = .access a :: rest →
        decodeAccess s.cfg a = .ok (.wrCtrl v) → v.getLsbD 0 = false) →
      step s = .next t →
      t.fsm = .idle ∧ t.count = s.count ∧ t.startPos = s.startPos ∧ t.endBound = s.endBound ∧
        t.pos = s.pos ∧ t.status.trunc = s.status.trunc)

/-- R29 and R33: no step changes CFG, BUFMAX or another parameter. -/
def Obligations.NoStepChangesTheParameters : Prop :=
  ∀ s t : State, step s = .next t → t.cfg = s.cfg

/-- R31: what HDR holds outside a SCAN step is not observable: two states that differ only in HDR step to
states that differ at most in HDR, and stop alike. -/
def Obligations.HeaderLatchIsNotObservable : Prop :=
  ∀ (s : State) (w : Word),
    (∀ t, step s = .next t → ∃ x, step { s with hdr := w } = .next { t with hdr := x }) ∧
    (∀ f, step s = .fault f → step { s with hdr := w } = .fault f) ∧
    (∀ r, step s = .refused r → step { s with hdr := w } = .refused r)

/-- A step runs the decoded instruction: a host access that decodes, a candidate that the guard lets
through, and the two tag markers. What the step adds is to take the event from the queue and, in SCAN, to
latch the candidate. -/
def Obligations.StepRunsTheDecodedInstruction : Prop :=
  ∀ s : State,
    (∀ (a : BusAccess) (rest : List Input) (i : Instr), s.inputs = .access a :: rest →
      decodeAccess s.cfg a = .ok i → step s = exec i (taken s)) ∧
    (∀ b0 b1 b2 b3 : Byte, ScannerMoves s → s.fsm = .scan → s.pos.toNat + 4 < s.endBound.toNat →
      s.pos.toNat + 3 < s.len.toNat → bufRead s s.pos.toNat = .ok b0 →
      bufRead s (s.pos.toNat + 1) = .ok b1 → bufRead s (s.pos.toNat + 2) = .ok b2 →
      bufRead s (s.pos.toNat + 3) = .ok b3 →
      step s = exec (decodeHdr s.cfg.hdrLayout (b0 ++ b1 ++ b2 ++ b3))
        { taken s with hdr := b0 ++ b1 ++ b2 ++ b3 }) ∧
    (∀ (m0 m1 m2 x3 x4 x5 b6 b7 b8 b9 : Byte) (i : Instr), ScannerMoves s → s.fsm = .leadTag →
      10 ≤ s.len.toNat → bufRead s 0 = .ok m0 → bufRead s 1 = .ok m1 → bufRead s 2 = .ok m2 →
      bufRead s 6 = .ok b6 → bufRead s 7 = .ok b7 → bufRead s 8 = .ok b8 → bufRead s 9 = .ok b9 →
      decodeId3v2 [m0, m1, m2, x3, x4, x5, b6, b7, b8, b9] = .ok i → step s = exec i (taken s)) ∧
    (∀ (m0 m1 m2 : Byte) (i : Instr), ScannerMoves s → s.fsm = .trailTag → 128 ≤ s.len.toNat →
      bufRead s (s.len.toNat - 128) = .ok m0 → bufRead s (s.len.toNat - 127) = .ok m1 →
      bufRead s (s.len.toNat - 126) = .ok m2 → decodeId3v1 [m0, m1, m2] = .ok i →
      step s = exec i (taken s))

/-- R243: a step of one instance leaves every other instance as it is, and an access to one instance's
window is outside every other's; and a step keeps the platform legal (R7): the number of instances, at least
1, and the window addresses that tell them apart. -/
def Obligations.InstancesShareNoState : Prop :=
  (∀ (p q : Platform) (j k : Nat), j ≠ k → p.stepInstance k = .next q →
    q.instances[j]? = p.instances[j]?) ∧
  (∀ (p : Platform) (j k : Nat) (s t : State) (a : BusAccess), p.Apart → j ≠ k →
    p.instances[j]? = some s → p.instances[k]? = some t → s.cfg.owns a.addr = true →
    decodeAccess t.cfg a = .error .outsideWindows) ∧
  (∀ (p q : Platform) (k : Nat), p.Legal → p.stepInstance k = .next q →
    q.Legal ∧ q.instances.length = p.instances.length)

/-! ## Power-up, and what a reset leaves of BUFMEM -/

/-- R260 and R66, a power-up: the registers take their reset values whatever the block was doing, and BUFMEM
is unspecified: it holds no byte, and the host reads the free bytes of the new power-up (log 3). That a
power-up is a reset and loses BUFMEM is log 5. -/
def Obligations.PowerUpGivesTheResetValuesAndLosesBufmem : Prop :=
  ∀ (s : State) (rest : List Input), s.inputs = .powerUp :: rest →
    ∃ t, step s = .next t ∧ t.fsm = .idle ∧ t.ctrlWord = 0 ∧ t.statusWord = 0 ∧ t.len = 0 ∧
      t.count = 0 ∧ t.startPos = 0 ∧ t.endBound = 0 ∧ t.pos = 0 ∧ t.irq = false ∧ t.cfg = s.cfg ∧
      t.inputs = rest ∧ t.powerUps = s.powerUps + 1 ∧
      ∀ a, Memory.read t.bufmem a = none ∧
        hostByte t a = Config.freeByte s.cfg.regBase (s.powerUps + 1) a

/-- R66 against R260 (log 5): after RST and after a power-up no byte counts as written since reset, so a
scanner read of any byte that exists is a fault of the run; and after RST the host still reads every byte it
read before (V-RST-01). -/
def Obligations.ResetLeavesNoByteForTheScanner : Prop :=
  ∀ (s : State) (rest : List Input),
    (s.inputs = .rst :: rest → ∃ t, step s = .next t ∧ (∀ a, hostByte t a = hostByte s a) ∧
      ∀ a, a < s.cfg.bufMax.toNat → bufRead t a = .error (.unwrittenByte a)) ∧
    (s.inputs = .powerUp :: rest → ∃ t, step s = .next t ∧
      ∀ a, a < s.cfg.bufMax.toNat → bufRead t a = .error (.unwrittenByte a))
end

