-- ==== Sys2Proof/Laws/Decode.lean ====
section
/-! SUPPORT. The header fields of a packed word and the word of its extracted fields, and one lemma per
frame table that says everything the row it gives can do: its encoding, its class and its meaning. -/

namespace Sys2Proof

/-- Concatenation as arithmetic. -/
theorem append_toNat {m n : Nat} (x : BitVec m) (y : BitVec n) :
    (x ++ y).toNat = x.toNat * 2 ^ n + y.toNat := by
  rw [BitVec.toNat_append, ← Nat.shiftLeft_add_eq_or_of_lt y.isLt, Nat.shiftLeft_eq]

/-- A field as arithmetic. -/
theorem field_toNat {n : Nat} (w : BitVec n) (lo len : Nat) :
    (w.extractLsb' lo len).toNat = w.toNat / 2 ^ lo % 2 ^ len := by
  rw [BitVec.extractLsb'_toNat, Nat.shiftRight_eq_div_pow]

/-- A bit vector equals a literal exactly when its number does. -/
theorem eq_iff_toNat_eq {n : Nat} (x y : BitVec n) : x = y ↔ x.toNat = y.toNat :=
  ⟨fun h => h ▸ rfl, BitVec.eq_of_toNat_eq⟩

theorem eq_ofNat_of_toNat {n : Nat} {x : BitVec n} {k : Nat} (h : x.toNat = k) :
    x = BitVec.ofNat n k := by
  rw [← h, BitVec.ofNat_toNat, BitVec.setWidth_eq]

theorem packMpegStd_toNat (prot : BitVec 1) (bri : BitVec 4) (sri : BitVec 2) (pad : BitVec 1)
    (low : BitVec 9) :
    (packMpegStd prot bri sri pad low).toNat =
      0xFFFA0000 + prot.toNat * 2 ^ 16 + bri.toNat * 2 ^ 12 + sri.toNat * 2 ^ 10 +
        pad.toNat * 2 ^ 9 + low.toNat := by
  have h : (packMpegStd prot bri sri pad low).toNat = _ :=
    append_toNat (0x7FF#11 ++ 3#2 ++ 1#2 ++ prot ++ bri ++ sri ++ pad) low
  rw [h]
  simp only [append_toNat]
  simp
  omega

theorem packDocTable_toNat (bri : BitVec 4) (sri : BitVec 2) (pad : BitVec 1) (low : BitVec 10) :
    (packDocTable bri sri pad low).toNat =
      0xFFFA0000 + bri.toNat * 2 ^ 13 + sri.toNat * 2 ^ 11 + pad.toNat * 2 ^ 10 + low.toNat := by
  have h : (packDocTable bri sri pad low).toNat = _ :=
    append_toNat (0x7FF#11 ++ 3#2 ++ 1#2 ++ bri ++ sri ++ pad) low
  rw [h]
  simp only [append_toNat]
  simp
  omega

/-- The fields of a packed MPEG_STD word are the packed fields. -/
theorem hdrFields_packMpegStd (prot : BitVec 1) (bri : BitVec 4) (sri : BitVec 2) (pad : BitVec 1)
    (low : BitVec 9) :
    hdrFields .mpegStd (packMpegStd prot bri sri pad low) =
      { sync := 0x7FF, version := 3, layer := 1, bri := bri, sri := sri, pad := pad } := by
  have h1 := prot.isLt; have h2 := bri.isLt; have h3 := sri.isLt; have h4 := pad.isLt
  have h5 := low.isLt
  simp only [hdrFields, HdrFields.mk.injEq]
  refine ⟨?_, ?_, ?_, ?_, ?_, ?_⟩ <;>
    · apply BitVec.eq_of_toNat_eq
      rw [field_toNat, packMpegStd_toNat]
      simp
      omega

/-- The fields of a packed DOC_TABLE word are the packed fields. -/
theorem hdrFields_packDocTable (bri : BitVec 4) (sri : BitVec 2) (pad : BitVec 1) (low : BitVec 10) :
    hdrFields .docTable (packDocTable bri sri pad low) =
      { sync := 0x7FF, version := 3, layer := 1, bri := bri, sri := sri, pad := pad } := by
  have h2 := bri.isLt; have h3 := sri.isLt; have h4 := pad.isLt; have h5 := low.isLt
  simp only [hdrFields, HdrFields.mk.injEq]
  refine ⟨?_, ?_, ?_, ?_, ?_, ?_⟩ <;>
    · apply BitVec.eq_of_toNat_eq
      rw [field_toNat, packDocTable_toNat]
      simp
      omega

theorem packMpegStd_prot (prot : BitVec 1) (bri : BitVec 4) (sri : BitVec 2) (pad : BitVec 1)
    (low : BitVec 9) : (packMpegStd prot bri sri pad low).extractLsb' 16 1 = prot := by
  have h1 := prot.isLt; have h2 := bri.isLt; have h3 := sri.isLt; have h4 := pad.isLt
  have h5 := low.isLt
  apply BitVec.eq_of_toNat_eq
  rw [field_toNat, packMpegStd_toNat]
  omega

theorem packMpegStd_low (prot : BitVec 1) (bri : BitVec 4) (sri : BitVec 2) (pad : BitVec 1)
    (low : BitVec 9) : (packMpegStd prot bri sri pad low).extractLsb' 0 9 = low := by
  have h5 := low.isLt
  apply BitVec.eq_of_toNat_eq
  rw [field_toNat, packMpegStd_toNat]
  omega

theorem packDocTable_low (bri : BitVec 4) (sri : BitVec 2) (pad : BitVec 1) (low : BitVec 10) :
    (packDocTable bri sri pad low).extractLsb' 0 10 = low := by
  have h5 := low.isLt
  apply BitVec.eq_of_toNat_eq
  rw [field_toNat, packDocTable_toNat]
  omega

/-- A word with legal sync, version and layer is the packing of its MPEG_STD fields. -/
theorem packMpegStd_of_fields (w : Word) (h : w.toNat / 2 ^ 17 = 0x7FFD) :
    packMpegStd (w.extractLsb' 16 1) (hdrFields .mpegStd w).bri (hdrFields .mpegStd w).sri
      (hdrFields .mpegStd w).pad (w.extractLsb' 0 9) = w := by
  apply BitVec.eq_of_toNat_eq
  simp only [packMpegStd_toNat, hdrFields, field_toNat]
  omega

/-- A word with legal sync, version and layer is the packing of its DOC_TABLE fields. -/
theorem packDocTable_of_fields (w : Word) (h : w.toNat / 2 ^ 17 = 0x7FFD) :
    packDocTable (hdrFields .docTable w).bri (hdrFields .docTable w).sri
      (hdrFields .docTable w).pad (w.extractLsb' 0 10) = w := by
  apply BitVec.eq_of_toNat_eq
  simp only [packDocTable_toNat, hdrFields, field_toNat]
  omega

/-- Everything the MPEG_STD frame table's row is: its encoding, its class, its layout and its meaning. -/
theorem frameMpegStd_spec {bri : BitVec 4} {sri : BitVec 2} {prot pad : BitVec 1} {low : BitVec 9}
    {i : Instr} (h : frameMpegStd bri sri prot pad low = some i) :
    (∀ c, encode c i = .hdr32 (packMpegStd prot bri sri pad low)) ∧
      i.frameRow = some (.mpegStd, bri.toNat, sri.toNat) ∧
      (∀ c : Config, i.WellFormed c = (c.hdrLayout == .mpegStd)) ∧
      (∀ s, Machine.exec i s = .next (Machine.frameStep bri sri pad s)) ∧ (∀ w, i ≠ .reject w) := by
  unfold frameMpegStd at h
  split at h
  case h_43 => cases h
  all_goals
    next hb hs =>
      cases h
      obtain rfl := eq_ofNat_of_toNat hb
      obtain rfl := eq_ofNat_of_toNat hs
      exact ⟨fun _ => rfl, rfl, fun _ => rfl, fun _ => rfl, fun _ h => nomatch h⟩

/-- Everything the DOC_TABLE frame table's row is. -/
theorem frameDocTable_spec {bri : BitVec 4} {sri : BitVec 2} {pad : BitVec 1} {low : BitVec 10}
    {i : Instr} (h : frameDocTable bri sri pad low = some i) :
    (∀ c, encode c i = .hdr32 (packDocTable bri sri pad low)) ∧
      i.frameRow = some (.docTable, bri.toNat, sri.toNat) ∧
      (∀ c : Config, i.WellFormed c = (c.hdrLayout == .docTable)) ∧
      (∀ s, Machine.exec i s = .next (Machine.frameStep bri sri pad s)) ∧ (∀ w, i ≠ .reject w) := by
  unfold frameDocTable at h
  split at h
  case h_43 => cases h
  all_goals
    next hb hs =>
      cases h
      obtain rfl := eq_ofNat_of_toNat hb
      obtain rfl := eq_ofNat_of_toNat hs
      exact ⟨fun _ => rfl, rfl, fun _ => rfl, fun _ => rfl, fun _ h => nomatch h⟩

/-- The table has a row for every legal pair of indices. -/
theorem frameMpegStd_isSome {bri : BitVec 4} {sri : BitVec 2} (prot pad : BitVec 1) (low : BitVec 9)
    (h0 : bri ≠ 0#4) (h15 : bri ≠ 15#4) (h3 : sri ≠ 3#2) :
    ∃ i, frameMpegStd bri sri prot pad low = some i := by
  have hb := bri.isLt; have hs := sri.isLt
  rw [ne_eq, eq_iff_toNat_eq] at h0 h15 h3
  simp only [BitVec.toNat_ofNat] at h0 h15 h3
  unfold frameMpegStd
  generalize bri.toNat = b at *
  generalize sri.toNat = s at *
  interval_cases b <;> interval_cases s <;> first | exact ⟨_, rfl⟩ | omega

theorem frameDocTable_isSome {bri : BitVec 4} {sri : BitVec 2} (pad : BitVec 1) (low : BitVec 10)
    (h0 : bri ≠ 0#4) (h15 : bri ≠ 15#4) (h3 : sri ≠ 3#2) :
    ∃ i, frameDocTable bri sri pad low = some i := by
  have hb := bri.isLt; have hs := sri.isLt
  rw [ne_eq, eq_iff_toNat_eq] at h0 h15 h3
  simp only [BitVec.toNat_ofNat] at h0 h15 h3
  unfold frameDocTable
  generalize bri.toNat = b at *
  generalize sri.toNat = s at *
  interval_cases b <;> interval_cases s <;> first | exact ⟨_, rfl⟩ | omega

/-- Legal sync, version and layer are the 15 bits 0x7FFD at the top of the word. -/
theorem top_of_fields {l : HdrLayout} {w : Word} (h1 : (hdrFields l w).sync = 0x7FF#11)
    (h2 : (hdrFields l w).version = 3#2) (h3 : (hdrFields l w).layer = 1#2) :
    w.toNat / 2 ^ 17 = 0x7FFD := by
  have hw := w.isLt
  cases l <;>
    · simp only [hdrFields, eq_iff_toNat_eq, field_toNat, BitVec.toNat_ofNat] at h1 h2 h3
      omega

/-- A valid candidate decodes to the FRAME row of its indices. -/
theorem decodeHdr_valid {l : HdrLayout} {w : Word} (h : (hdrFields l w).valid = true) :
    (∀ c, encode c (decodeHdr l w) = .hdr32 w) ∧
      (decodeHdr l w).frameRow = some (l, (hdrFields l w).bri.toNat, (hdrFields l w).sri.toNat) ∧
      (∀ c : Config, (decodeHdr l w).WellFormed c = (c.hdrLayout == l)) ∧
      (∀ s, Machine.exec (decodeHdr l w) s =
        .next (Machine.frameStep (hdrFields l w).bri (hdrFields l w).sri (hdrFields l w).pad s)) ∧
      ∀ v, decodeHdr l w ≠ .reject v := by
  simp only [HdrFields.valid, Bool.and_eq_true, beq_iff_eq, bne_iff_ne, ne_eq] at h
  obtain ⟨⟨⟨⟨⟨h1, h2⟩, h3⟩, h4⟩, h5⟩, h6⟩ := h
  have top := top_of_fields h1 h2 h3
  cases l with
  | mpegStd =>
    obtain ⟨i, hi⟩ := frameMpegStd_isSome (w.extractLsb' 16 1) (hdrFields .mpegStd w).pad
      (w.extractLsb' 0 9) h4 h5 h6
    have hd : decodeHdr .mpegStd w = i := by
      simp [decodeHdr, decodeMpegStd, h1, h2, h3, h4, h5, h6, hi]
    rw [hd]
    simpa only [packMpegStd_of_fields w top] using frameMpegStd_spec hi
  | docTable =>
    obtain ⟨i, hi⟩ := frameDocTable_isSome (hdrFields .docTable w).pad (w.extractLsb' 0 10) h4 h5 h6
    have hd : decodeHdr .docTable w = i := by
      simp [decodeHdr, decodeDocTable, h1, h2, h3, h4, h5, h6, hi]
    rw [hd]
    simpa only [packDocTable_of_fields w top] using frameDocTable_spec hi

/-- What holds of every named sub-case of rejection. -/
structure IsSubCase (l : HdrLayout) (w : Word) (i : Instr) : Prop where
  word : ∀ c, encode c i = .hdr32 w
  noFrame : i.frameRow = none
  wellFormed : ∀ c : Config, c.hdrLayout = l → i.WellFormed c = true
  meaning : ∀ s, Machine.exec i s = .next (Machine.rejectStep s)
  named : ∀ v, i ≠ .reject v

theorem word_eq {w x : Word} (h : x.toNat = w.toNat) : Encoding.hdr32 x = .hdr32 w := by
  rw [BitVec.eq_of_toNat_eq h]

/-- An invalid candidate decodes to a named sub-case of rejection. -/
theorem decodeHdr_invalid {l : HdrLayout} {w : Word} (h : (hdrFields l w).valid = false) :
    IsSubCase l w (decodeHdr l w) := by
  have hw := w.isLt
  simp only [decodeHdr]
  split
  · next h1 =>
    refine ⟨fun c => word_eq ?_, rfl, fun c _ => ?_, fun _ => rfl, fun _ h => nomatch h⟩
    · cases l <;>
      · show (_ ++ _ : BitVec (11 + 21)).toNat = _
        simp only [append_toNat, hdrFields, field_toNat]
        omega
    · simpa [Instr.WellFormed] using h1
  next h1 =>
  have hs : w.toNat / 2 ^ 21 = 0x7FF := by
    cases l <;>
    · simp only [hdrFields, ne_eq, Decidable.not_not, eq_iff_toNat_eq, field_toNat,
        BitVec.toNat_ofNat] at h1
      omega
  have hv : (hdrFields l w).version.toNat = w.toNat / 2 ^ 19 % 4 := by
    cases l <;> exact field_toNat _ _ _
  have hy : (hdrFields l w).layer.toNat = w.toNat / 2 ^ 17 % 4 := by
    cases l <;> exact field_toNat _ _ _
  iterate 3
    split
    · next h2 =>
      rw [eq_iff_toNat_eq, hv, BitVec.toNat_ofNat] at h2
      refine ⟨fun c => word_eq ?_, rfl, fun c _ => rfl, fun _ => rfl, fun _ h => nomatch h⟩
      show (_ ++ _ : BitVec (13 + 19)).toNat = _
      simp only [append_toNat, field_toNat, BitVec.toNat_ofNat]
      omega
    rename_i h2
    rw [eq_iff_toNat_eq, hv, BitVec.toNat_ofNat] at h2
  iterate 3
    split
    · next h3 =>
      rw [eq_iff_toNat_eq, hy, BitVec.toNat_ofNat] at h3
      refine ⟨fun c => word_eq ?_, rfl, fun c _ => rfl, fun _ => rfl, fun _ h => nomatch h⟩
      show (_ ++ _ : BitVec (15 + 17)).toNat = _
      simp only [append_toNat, field_toNat, BitVec.toNat_ofNat]
      omega
    rename_i h3
    rw [eq_iff_toNat_eq, hy, BitVec.toNat_ofNat] at h3
  have top : w.toNat / 2 ^ 17 = 0x7FFD := by omega
  have e1 : (hdrFields l w).sync = 0x7FF#11 := by simpa using h1
  have e2 : (hdrFields l w).version = 3#2 := by
    rw [eq_iff_toNat_eq, hv, BitVec.toNat_ofNat]; omega
  have e3 : (hdrFields l w).layer = 1#2 := by
    rw [eq_iff_toNat_eq, hy, BitVec.toNat_ofNat]; omega
  cases l with
  | mpegStd =>
    simp only [decodeMpegStd]
    split
    · next h4 =>
      refine ⟨fun c => word_eq ?_, rfl, fun c hc => by simp [Instr.WellFormed, hc], fun _ => rfl,
        fun _ h => nomatch h⟩
      simp only [hdrFields, eq_iff_toNat_eq, field_toNat, BitVec.toNat_ofNat] at h4
      show (_ ++ _ : BitVec (20 + 12)).toNat = _
      simp only [append_toNat, field_toNat, BitVec.toNat_ofNat]
      omega
    next h4 =>
    split
    · next h5 =>
      refine ⟨fun c => word_eq ?_, rfl, fun c hc => by simp [Instr.WellFormed, hc], fun _ => rfl,
        fun _ h => nomatch h⟩
      simp only [hdrFields, eq_iff_toNat_eq, field_toNat, BitVec.toNat_ofNat] at h5
      show (_ ++ _ : BitVec (20 + 12)).toNat = _
      simp only [append_toNat, field_toNat, BitVec.toNat_ofNat]
      omega
    next h5 =>
    split
    · next h6 =>
      refine ⟨fun c => word_eq ?_, rfl, fun c hc => by simpa [Instr.WellFormed, hc] using ⟨h4, h5⟩,
        fun _ => rfl, fun _ h => nomatch h⟩
      simp only [hdrFields, eq_iff_toNat_eq, field_toNat, BitVec.toNat_ofNat] at h6
      show (_ ++ _ : BitVec (22 + 10)).toNat = _
      simp only [append_toNat, field_toNat, BitVec.toNat_ofNat, hdrFields]
      omega
    next h6 => simp [HdrFields.valid, e1, e2, e3, h4, h5, h6] at h
  | docTable =>
    simp only [decodeDocTable]
    split
    · next h4 =>
      refine ⟨fun c => word_eq ?_, rfl, fun c hc => by simp [Instr.WellFormed, hc], fun _ => rfl,
        fun _ h => nomatch h⟩
      simp only [hdrFields, eq_iff_toNat_eq, field_toNat, BitVec.toNat_ofNat] at h4
      show (_ ++ _ : BitVec (19 + 13)).toNat = _
      simp only [append_toNat, field_toNat, BitVec.toNat_ofNat]
      omega
    next h4 =>
    split
    · next h5 =>
      refine ⟨fun c => word_eq ?_, rfl, fun c hc => by simp [Instr.WellFormed, hc], fun _ => rfl,
        fun _ h => nomatch h⟩
      simp only [hdrFields, eq_iff_toNat_eq, field_toNat, BitVec.toNat_ofNat] at h5
      show (_ ++ _ : BitVec (19 + 13)).toNat = _
      simp only [append_toNat, field_toNat, BitVec.toNat_ofNat]
      omega
    next h5 =>
    split
    · next h6 =>
      refine ⟨fun c => word_eq ?_, rfl, fun c hc => by simpa [Instr.WellFormed, hc] using ⟨h4, h5⟩,
        fun _ => rfl, fun _ h => nomatch h⟩
      simp only [hdrFields, eq_iff_toNat_eq, field_toNat, BitVec.toNat_ofNat] at h6
      show (_ ++ _ : BitVec (21 + 11)).toNat = _
      simp only [append_toNat, field_toNat, BitVec.toNat_ofNat, hdrFields]
      omega
    next h6 => simp [HdrFields.valid, e1, e2, e3, h4, h5, h6] at h

end Sys2Proof
end

