-- ==== Sys2Proof/Laws/Memory.lean ====
section
/-! SUPPORT. The laws of BUFMEM and of the written offsets: read after write, and that a write keeps the
canonical forms and stays inside the bytes that exist. -/

namespace Sys2Proof.Machine

theorem Memory.read_write_same (m : Memory) (a : Nat) (b : Byte) :
    Memory.read (Memory.write m a b) a = some b := by
  induction m with
  | nil => simp [Memory.write, Memory.read]
  | cons c m ih =>
    obtain ⟨k, v⟩ := c
    simp only [Memory.write]
    split
    · simp [Memory.read]
    · split
      · simp [Memory.read]
      · next h => simp [Memory.read, Ne.symm h, ih]

theorem Memory.read_write_other (m : Memory) (a a' : Nat) (b : Byte) (h : a' ≠ a) :
    Memory.read (Memory.write m a b) a' = Memory.read m a' := by
  induction m with
  | nil => simp [Memory.write, Memory.read, Ne.symm h]
  | cons c m ih =>
    obtain ⟨k, v⟩ := c
    simp only [Memory.write]
    split
    · simp [Memory.read, Ne.symm h]
    · split
      · next hk => subst hk; simp [Memory.read, Ne.symm h]
      · simp only [Memory.read, ih]

theorem Memory.wf_cons {k : Nat} {v : Byte} {m : Memory} :
    Memory.wf ((k, v) :: m) = true ↔ (∀ c ∈ m.head?, k < c.1) ∧ Memory.wf m = true := by
  cases m with
  | nil => simp [Memory.wf]
  | cons c m => obtain ⟨k', v'⟩ := c; simp [Memory.wf]

theorem Memory.head_write {m : Memory} {a : Nat} {b : Byte} {c : Host.Cell}
    (h : c ∈ (Memory.write m a b).head?) : c = (a, b) ∨ c ∈ m.head? := by
  cases m with
  | nil => simpa [Memory.write, eq_comm] using h
  | cons c' m =>
    obtain ⟨k, v⟩ := c'
    simp only [Memory.write] at h
    split at h
    · simp_all
    · split at h <;> simp_all

/-- A write keeps the canonical form. -/
theorem Memory.wf_write {m : Memory} (a : Nat) (b : Byte) (h : Memory.wf m = true) :
    Memory.wf (Memory.write m a b) = true := by
  induction m with
  | nil => rfl
  | cons c m ih =>
    obtain ⟨k, v⟩ := c
    obtain ⟨h1, h2⟩ := Memory.wf_cons.1 h
    simp only [Memory.write]
    split
    · next hlt => exact Memory.wf_cons.2 ⟨by simpa using hlt, h⟩
    · split
      · next heq => subst heq; exact Memory.wf_cons.2 ⟨h1, h2⟩
      · next h3 h4 =>
        refine Memory.wf_cons.2 ⟨fun c hc => ?_, ih h2⟩
        rcases Memory.head_write hc with rfl | hc
        · exact Nat.lt_of_le_of_ne (Nat.not_lt.1 h3) (Ne.symm h4)
        · exact h1 c hc

/-- A write at an offset below `n` keeps every listed offset below `n`. -/
theorem Memory.below_write {m : Memory} {a n : Nat} (b : Byte) (ha : a < n)
    (h : Memory.below m n = true) : Memory.below (Memory.write m a b) n = true := by
  induction m with
  | nil => simpa [Memory.write, Memory.below] using ha
  | cons c m ih =>
    obtain ⟨k, v⟩ := c
    have hk : k < n ∧ Memory.below m n = true := by simpa [Memory.below] using h
    simp only [Memory.write]
    split
    · simpa [Memory.below, ha, hk.1] using hk.2
    · split
      · simpa [Memory.below, ha] using hk.2
      · simpa [Memory.below, hk.1] using ih hk.2

/-- A listed byte lies at an offset that exists. -/
theorem Memory.lt_of_read {m : Memory} {a n : Nat} {b : Byte} (h : Memory.below m n = true)
    (hr : Memory.read m a = some b) : a < n := by
  induction m with
  | nil => simp [Memory.read] at hr
  | cons c m ih =>
    obtain ⟨k, v⟩ := c
    have hk : k < n ∧ Memory.below m n = true := by simpa [Memory.below] using h
    simp only [Memory.read] at hr
    split at hr
    · next heq => exact heq ▸ hk.1
    · exact ih hk.2 hr

/-- After one more write, the written offsets are the old ones and the new one. -/
theorem Offsets.mem_add {w : Offsets} {a k : Nat} : k ∈ Offsets.add w a ↔ k = a ∨ k ∈ w := by
  induction w with
  | nil => simp [Offsets.add]
  | cons c w ih =>
    simp only [Offsets.add]
    split
    · simp
    · split
      · next h => subst h; simp
      · simp only [List.mem_cons, ih, or_left_comm]

theorem Offsets.contains_add {w : Offsets} {a k : Nat} :
    (Offsets.add w a).contains k = true ↔ k = a ∨ w.contains k = true := by
  simp only [List.contains_iff_mem, Offsets.mem_add]

theorem Offsets.wf_cons {k : Nat} {w : Offsets} :
    Offsets.wf (k :: w) = true ↔ (∀ c ∈ w.head?, k < c) ∧ Offsets.wf w = true := by
  cases w <;> simp [Offsets.wf]

theorem Offsets.head_add {w : Offsets} {a c : Nat} (h : c ∈ (Offsets.add w a).head?) :
    c = a ∨ c ∈ w.head? := by
  cases w with
  | nil => simpa [Offsets.add, eq_comm] using h
  | cons k w =>
    simp only [Offsets.add] at h
    split at h
    · simp_all
    · split at h <;> simp_all

/-- One more written offset keeps the canonical form. -/
theorem Offsets.wf_add {w : Offsets} (a : Nat) (h : Offsets.wf w = true) :
    Offsets.wf (Offsets.add w a) = true := by
  induction w with
  | nil => rfl
  | cons k w ih =>
    obtain ⟨h1, h2⟩ := Offsets.wf_cons.1 h
    simp only [Offsets.add]
    split
    · next hlt => exact Offsets.wf_cons.2 ⟨by simpa using hlt, h⟩
    · split
      · exact h
      · next h3 h4 =>
        refine Offsets.wf_cons.2 ⟨fun c hc => ?_, ih h2⟩
        rcases Offsets.head_add hc with rfl | hc
        · exact Nat.lt_of_le_of_ne (Nat.not_lt.1 h3) (Ne.symm h4)
        · exact h1 c hc

/-- What the scanner may use after one byte is stored: that byte, and elsewhere what it might use before. -/
theorem loadedByte_storeByte (a k : Nat) (b : Byte) (s : State) :
    (storeByte a b s).loadedByte k = if k = a then some b else s.loadedByte k := by
  simp only [State.loadedByte, storeByte, Offsets.contains_add]
  by_cases h : k = a
  · subst h; simp [Memory.read_write_same]
  · simp [h, Memory.read_write_other _ _ _ _ h]

/-- A byte the scanner may use is the byte BUFMEM holds. -/
theorem read_of_loadedByte {s : State} {a : Nat} {b : Byte} (h : s.loadedByte a = some b) :
    Memory.read s.bufmem a = some b := by
  simp only [State.loadedByte] at h
  split at h
  · exact h
  · cases h

/-- What `BufRead` answers: the byte of an existing offset written since the last reset, and otherwise a
fault by name. -/
theorem bufRead_cases (s : State) (a : Nat) :
    (∃ b, bufRead s a = .ok b ∧ a < s.cfg.bufMax.toNat ∧ s.loadedByte a = some b) ∨
    (bufRead s a = .error (.unwrittenByte a) ∧ a < s.cfg.bufMax.toNat ∧
      s.loadedByte a = none) ∨
    (bufRead s a = .error (.noSuchByte a) ∧ s.cfg.bufMax.toNat ≤ a) := by
  unfold bufRead
  split
  · next h => cases hr : s.loadedByte a <;> simp [h]
  · next h => exact .inr (.inr ⟨rfl, Nat.not_lt.1 h⟩)

/-- A written byte that exists is read. -/
theorem bufRead_of_read {s : State} {a : Nat} {b : Byte} (ha : a < s.cfg.bufMax.toNat)
    (h : s.loadedByte a = some b) : bufRead s a = .ok b := by
  simp [bufRead, ha, h]

/-- `BufRead` looks at the bytes the scanner may use and at P_BUF_MAX only. -/
theorem bufRead_congr {s t : State} {a : Nat} (hm : s.loadedByte a = t.loadedByte a)
    (hc : s.cfg = t.cfg) : bufRead s a = bufRead t a := by
  simp [bufRead, hm, hc]

theorem bufRead3_eq_ok {s : State} {a : Nat} {b0 b1 b2 : Byte} (h0 : bufRead s a = .ok b0)
    (h1 : bufRead s (a + 1) = .ok b1) (h2 : bufRead s (a + 2) = .ok b2) :
    bufRead3 s a = .ok (b0, b1, b2) := by
  simp [bufRead3, h0, h1, h2]

theorem bufRead4_eq_ok {s : State} {a : Nat} {b0 b1 b2 b3 : Byte} (h0 : bufRead s a = .ok b0)
    (h1 : bufRead s (a + 1) = .ok b1) (h2 : bufRead s (a + 2) = .ok b2)
    (h3 : bufRead s (a + 3) = .ok b3) : bufRead4 s a = .ok (b0, b1, b2, b3) := by
  simp [bufRead4, bufRead3_eq_ok h0 h1 h2, h3]

theorem memRead4_eq_ok {s : State} {a : Nat} {b0 b1 b2 b3 : Byte} (h0 : bufRead s a = .ok b0)
    (h1 : bufRead s (a + 1) = .ok b1) (h2 : bufRead s (a + 2) = .ok b2)
    (h3 : bufRead s (a + 3) = .ok b3) : memRead4 s a = .ok (wordOfBytes b0 b1 b2 b3) := by
  simp [memRead4, bufRead4_eq_ok h0 h1 h2 h3]

theorem bufRead3_congr {s t : State} {a : Nat} (hm : ∀ k, k < 3 → s.loadedByte (a + k) = t.loadedByte (a + k))
    (hc : s.cfg = t.cfg) : bufRead3 s a = bufRead3 t a := by
  have h := fun k hk => bufRead_congr (hm k hk) hc
  have h0 : bufRead s a = bufRead t a := h 0 (by omega)
  simp [bufRead3, h0, h 1 (by omega), h 2 (by omega)]

theorem bufRead4_congr {s t : State} {a : Nat} (hm : ∀ k, k < 4 → s.loadedByte (a + k) = t.loadedByte (a + k))
    (hc : s.cfg = t.cfg) : bufRead4 s a = bufRead4 t a := by
  simp [bufRead4, bufRead3_congr (fun k hk => hm k (by omega)) hc, bufRead_congr (hm 3 (by omega)) hc]

theorem memRead4_congr {s t : State} {a : Nat} (hm : ∀ k, k < 4 → s.loadedByte (a + k) = t.loadedByte (a + k))
    (hc : s.cfg = t.cfg) : memRead4 s a = memRead4 t a := by
  simp [memRead4, bufRead4_congr hm hc]

end Sys2Proof.Machine
end

