-- ==== Sys2Proof/Laws/State.lean ====
section
/-! SUPPORT. One lemma per field per named register update of Machine/Ops.lean, true by unfolding it once,
so that no later proof unfolds an update. -/

namespace Sys2Proof.Machine

variable (s : State)

@[simp] theorem storeByte_cfg (a : Nat) (b : Byte) : (storeByte a b s).cfg = s.cfg := rfl
@[simp] theorem storeByte_ie (a : Nat) (b : Byte) : (storeByte a b s).ie = s.ie := rfl
@[simp] theorem storeByte_status (a : Nat) (b : Byte) : (storeByte a b s).status = s.status := rfl
@[simp] theorem storeByte_len (a : Nat) (b : Byte) : (storeByte a b s).len = s.len := rfl
@[simp] theorem storeByte_count (a : Nat) (b : Byte) : (storeByte a b s).count = s.count := rfl
@[simp] theorem storeByte_startPos (a : Nat) (b : Byte) : (storeByte a b s).startPos = s.startPos := rfl
@[simp] theorem storeByte_endBound (a : Nat) (b : Byte) : (storeByte a b s).endBound = s.endBound := rfl
@[simp] theorem storeByte_pos (a : Nat) (b : Byte) : (storeByte a b s).pos = s.pos := rfl
@[simp] theorem storeByte_fsm (a : Nat) (b : Byte) : (storeByte a b s).fsm = s.fsm := rfl
@[simp] theorem storeByte_hdr (a : Nat) (b : Byte) : (storeByte a b s).hdr = s.hdr := rfl
@[simp] theorem storeByte_bufmem (a : Nat) (b : Byte) : (storeByte a b s).bufmem = Memory.write s.bufmem a b := rfl
@[simp] theorem storeByte_written (a : Nat) (b : Byte) : (storeByte a b s).written = Offsets.add s.written a := rfl
@[simp] theorem storeByte_inputs (a : Nat) (b : Byte) : (storeByte a b s).inputs = s.inputs := rfl
@[simp] theorem storeByte_hostResult (a : Nat) (b : Byte) : (storeByte a b s).hostResult = s.hostResult := rfl
@[simp] theorem storeByte_event (a : Nat) (b : Byte) : (storeByte a b s).event = s.event := rfl
@[simp] theorem storeByte_draws (a : Nat) (b : Byte) : (storeByte a b s).draws = s.draws := rfl
@[simp] theorem storeByte_powerUps (a : Nat) (b : Byte) : (storeByte a b s).powerUps = s.powerUps := rfl

@[simp] theorem raiseHazard_cfg (k : HazardKind) : (raiseHazard k s).cfg = s.cfg := rfl
@[simp] theorem raiseHazard_ie (k : HazardKind) : (raiseHazard k s).ie = s.ie := rfl
@[simp] theorem raiseHazard_status (k : HazardKind) : (raiseHazard k s).status = { s.status with haz := true } := rfl
@[simp] theorem raiseHazard_len (k : HazardKind) : (raiseHazard k s).len = s.len := rfl
@[simp] theorem raiseHazard_count (k : HazardKind) : (raiseHazard k s).count = s.count := rfl
@[simp] theorem raiseHazard_startPos (k : HazardKind) : (raiseHazard k s).startPos = s.startPos := rfl
@[simp] theorem raiseHazard_endBound (k : HazardKind) : (raiseHazard k s).endBound = s.endBound := rfl
@[simp] theorem raiseHazard_pos (k : HazardKind) : (raiseHazard k s).pos = s.pos := rfl
@[simp] theorem raiseHazard_fsm (k : HazardKind) : (raiseHazard k s).fsm = s.fsm := rfl
@[simp] theorem raiseHazard_hdr (k : HazardKind) : (raiseHazard k s).hdr = s.hdr := rfl
@[simp] theorem raiseHazard_bufmem (k : HazardKind) : (raiseHazard k s).bufmem = s.bufmem := rfl
@[simp] theorem raiseHazard_written (k : HazardKind) : (raiseHazard k s).written = s.written := rfl
@[simp] theorem raiseHazard_inputs (k : HazardKind) : (raiseHazard k s).inputs = s.inputs := rfl
@[simp] theorem raiseHazard_hostResult (k : HazardKind) : (raiseHazard k s).hostResult = s.hostResult := rfl
@[simp] theorem raiseHazard_event (k : HazardKind) : (raiseHazard k s).event = .hostHazard k := rfl
@[simp] theorem raiseHazard_draws (k : HazardKind) : (raiseHazard k s).draws = s.draws := rfl
@[simp] theorem raiseHazard_powerUps (k : HazardKind) : (raiseHazard k s).powerUps = s.powerUps := rfl

@[simp] theorem contractError_cfg : (contractError s).cfg = s.cfg := rfl
@[simp] theorem contractError_ie : (contractError s).ie = s.ie := rfl
@[simp] theorem contractError_status : (contractError s).status = { done := true, err := true, haz := false, trunc := false } := rfl
@[simp] theorem contractError_len : (contractError s).len = s.len := rfl
@[simp] theorem contractError_count : (contractError s).count = 0 := rfl
@[simp] theorem contractError_startPos : (contractError s).startPos = 0 := rfl
@[simp] theorem contractError_endBound : (contractError s).endBound = 0 := rfl
@[simp] theorem contractError_pos : (contractError s).pos = 0 := rfl
@[simp] theorem contractError_fsm : (contractError s).fsm = s.fsm := rfl
@[simp] theorem contractError_hdr : (contractError s).hdr = s.hdr := rfl
@[simp] theorem contractError_bufmem : (contractError s).bufmem = s.bufmem := rfl
@[simp] theorem contractError_written : (contractError s).written = s.written := rfl
@[simp] theorem contractError_inputs : (contractError s).inputs = s.inputs := rfl
@[simp] theorem contractError_hostResult : (contractError s).hostResult = s.hostResult := rfl
@[simp] theorem contractError_event : (contractError s).event = .contractError s.len := rfl
@[simp] theorem contractError_draws : (contractError s).draws = s.draws := rfl
@[simp] theorem contractError_powerUps : (contractError s).powerUps = s.powerUps := rfl

@[simp] theorem acknowledge_cfg (v : Word) : (acknowledge v s).cfg = s.cfg := rfl
@[simp] theorem acknowledge_ie (v : Word) : (acknowledge v s).ie = s.ie := rfl
@[simp] theorem acknowledge_status (v : Word) : (acknowledge v s).status = s.status.acknowledge v := rfl
@[simp] theorem acknowledge_len (v : Word) : (acknowledge v s).len = s.len := rfl
@[simp] theorem acknowledge_count (v : Word) : (acknowledge v s).count = s.count := rfl
@[simp] theorem acknowledge_startPos (v : Word) : (acknowledge v s).startPos = s.startPos := rfl
@[simp] theorem acknowledge_endBound (v : Word) : (acknowledge v s).endBound = s.endBound := rfl
@[simp] theorem acknowledge_pos (v : Word) : (acknowledge v s).pos = s.pos := rfl
@[simp] theorem acknowledge_fsm (v : Word) : (acknowledge v s).fsm = s.fsm := rfl
@[simp] theorem acknowledge_hdr (v : Word) : (acknowledge v s).hdr = s.hdr := rfl
@[simp] theorem acknowledge_bufmem (v : Word) : (acknowledge v s).bufmem = s.bufmem := rfl
@[simp] theorem acknowledge_written (v : Word) : (acknowledge v s).written = s.written := rfl
@[simp] theorem acknowledge_inputs (v : Word) : (acknowledge v s).inputs = s.inputs := rfl
@[simp] theorem acknowledge_hostResult (v : Word) : (acknowledge v s).hostResult = s.hostResult := rfl
@[simp] theorem acknowledge_event (v : Word) : (acknowledge v s).event = s.event := rfl
@[simp] theorem acknowledge_draws (v : Word) : (acknowledge v s).draws = s.draws := rfl
@[simp] theorem acknowledge_powerUps (v : Word) : (acknowledge v s).powerUps = s.powerUps := rfl

@[simp] theorem setIe_cfg (v : Word) : (setIe v s).cfg = s.cfg := rfl
@[simp] theorem setIe_ie (v : Word) : (setIe v s).ie = ieBit v := rfl
@[simp] theorem setIe_status (v : Word) : (setIe v s).status = s.status := rfl
@[simp] theorem setIe_len (v : Word) : (setIe v s).len = s.len := rfl
@[simp] theorem setIe_count (v : Word) : (setIe v s).count = s.count := rfl
@[simp] theorem setIe_startPos (v : Word) : (setIe v s).startPos = s.startPos := rfl
@[simp] theorem setIe_endBound (v : Word) : (setIe v s).endBound = s.endBound := rfl
@[simp] theorem setIe_pos (v : Word) : (setIe v s).pos = s.pos := rfl
@[simp] theorem setIe_fsm (v : Word) : (setIe v s).fsm = s.fsm := rfl
@[simp] theorem setIe_hdr (v : Word) : (setIe v s).hdr = s.hdr := rfl
@[simp] theorem setIe_bufmem (v : Word) : (setIe v s).bufmem = s.bufmem := rfl
@[simp] theorem setIe_written (v : Word) : (setIe v s).written = s.written := rfl
@[simp] theorem setIe_inputs (v : Word) : (setIe v s).inputs = s.inputs := rfl
@[simp] theorem setIe_hostResult (v : Word) : (setIe v s).hostResult = s.hostResult := rfl
@[simp] theorem setIe_event (v : Word) : (setIe v s).event = s.event := rfl
@[simp] theorem setIe_draws (v : Word) : (setIe v s).draws = s.draws := rfl
@[simp] theorem setIe_powerUps (v : Word) : (setIe v s).powerUps = s.powerUps := rfl

@[simp] theorem acceptStart_cfg : (acceptStart s).cfg = s.cfg := rfl
@[simp] theorem acceptStart_ie : (acceptStart s).ie = s.ie := rfl
@[simp] theorem acceptStart_status : (acceptStart s).status = { done := false, err := false, haz := false, trunc := false } := rfl
@[simp] theorem acceptStart_len : (acceptStart s).len = s.len := rfl
@[simp] theorem acceptStart_count : (acceptStart s).count = 0 := rfl
@[simp] theorem acceptStart_startPos : (acceptStart s).startPos = 0 := rfl
@[simp] theorem acceptStart_endBound : (acceptStart s).endBound = s.len := rfl
@[simp] theorem acceptStart_pos : (acceptStart s).pos = 0 := rfl
@[simp] theorem acceptStart_fsm : (acceptStart s).fsm = .leadTag := rfl
@[simp] theorem acceptStart_hdr : (acceptStart s).hdr = s.hdr := rfl
@[simp] theorem acceptStart_bufmem : (acceptStart s).bufmem = s.bufmem := rfl
@[simp] theorem acceptStart_written : (acceptStart s).written = s.written := rfl
@[simp] theorem acceptStart_inputs : (acceptStart s).inputs = s.inputs := rfl
@[simp] theorem acceptStart_hostResult : (acceptStart s).hostResult = s.hostResult := rfl
@[simp] theorem acceptStart_event : (acceptStart s).event = s.event := rfl
@[simp] theorem acceptStart_draws : (acceptStart s).draws = s.draws := rfl
@[simp] theorem acceptStart_powerUps : (acceptStart s).powerUps = s.powerUps := rfl

@[simp] theorem setLen_cfg (v : Word) : (setLen v s).cfg = s.cfg := rfl
@[simp] theorem setLen_ie (v : Word) : (setLen v s).ie = s.ie := rfl
@[simp] theorem setLen_status (v : Word) : (setLen v s).status = s.status := rfl
@[simp] theorem setLen_len (v : Word) : (setLen v s).len = v := rfl
@[simp] theorem setLen_count (v : Word) : (setLen v s).count = s.count := rfl
@[simp] theorem setLen_startPos (v : Word) : (setLen v s).startPos = s.startPos := rfl
@[simp] theorem setLen_endBound (v : Word) : (setLen v s).endBound = s.endBound := rfl
@[simp] theorem setLen_pos (v : Word) : (setLen v s).pos = s.pos := rfl
@[simp] theorem setLen_fsm (v : Word) : (setLen v s).fsm = s.fsm := rfl
@[simp] theorem setLen_hdr (v : Word) : (setLen v s).hdr = s.hdr := rfl
@[simp] theorem setLen_bufmem (v : Word) : (setLen v s).bufmem = s.bufmem := rfl
@[simp] theorem setLen_written (v : Word) : (setLen v s).written = s.written := rfl
@[simp] theorem setLen_inputs (v : Word) : (setLen v s).inputs = s.inputs := rfl
@[simp] theorem setLen_hostResult (v : Word) : (setLen v s).hostResult = s.hostResult := rfl
@[simp] theorem setLen_event (v : Word) : (setLen v s).event = s.event := rfl
@[simp] theorem setLen_draws (v : Word) : (setLen v s).draws = s.draws := rfl
@[simp] theorem setLen_powerUps (v : Word) : (setLen v s).powerUps = s.powerUps := rfl

@[simp] theorem returnRead_cfg (r : ReadResult) : (returnRead r s).cfg = s.cfg := rfl
@[simp] theorem returnRead_ie (r : ReadResult) : (returnRead r s).ie = s.ie := rfl
@[simp] theorem returnRead_status (r : ReadResult) : (returnRead r s).status = s.status := rfl
@[simp] theorem returnRead_len (r : ReadResult) : (returnRead r s).len = s.len := rfl
@[simp] theorem returnRead_count (r : ReadResult) : (returnRead r s).count = s.count := rfl
@[simp] theorem returnRead_startPos (r : ReadResult) : (returnRead r s).startPos = s.startPos := rfl
@[simp] theorem returnRead_endBound (r : ReadResult) : (returnRead r s).endBound = s.endBound := rfl
@[simp] theorem returnRead_pos (r : ReadResult) : (returnRead r s).pos = s.pos := rfl
@[simp] theorem returnRead_fsm (r : ReadResult) : (returnRead r s).fsm = s.fsm := rfl
@[simp] theorem returnRead_hdr (r : ReadResult) : (returnRead r s).hdr = s.hdr := rfl
@[simp] theorem returnRead_bufmem (r : ReadResult) : (returnRead r s).bufmem = s.bufmem := rfl
@[simp] theorem returnRead_written (r : ReadResult) : (returnRead r s).written = s.written := rfl
@[simp] theorem returnRead_inputs (r : ReadResult) : (returnRead r s).inputs = s.inputs := rfl
@[simp] theorem returnRead_hostResult (r : ReadResult) : (returnRead r s).hostResult = r := rfl
@[simp] theorem returnRead_event (r : ReadResult) : (returnRead r s).event = s.event := rfl
@[simp] theorem returnRead_draws (r : ReadResult) : (returnRead r s).draws = s.draws := rfl
@[simp] theorem returnRead_powerUps (r : ReadResult) : (returnRead r s).powerUps = s.powerUps := rfl

@[simp] theorem setStart_cfg (n : Nat) : (setStart n s).cfg = s.cfg := rfl
@[simp] theorem setStart_ie (n : Nat) : (setStart n s).ie = s.ie := rfl
@[simp] theorem setStart_status (n : Nat) : (setStart n s).status = s.status := rfl
@[simp] theorem setStart_len (n : Nat) : (setStart n s).len = s.len := rfl
@[simp] theorem setStart_count (n : Nat) : (setStart n s).count = s.count := rfl
@[simp] theorem setStart_startPos (n : Nat) : (setStart n s).startPos = BitVec.ofNat 32 n := rfl
@[simp] theorem setStart_endBound (n : Nat) : (setStart n s).endBound = s.endBound := rfl
@[simp] theorem setStart_pos (n : Nat) : (setStart n s).pos = BitVec.ofNat 32 n := rfl
@[simp] theorem setStart_fsm (n : Nat) : (setStart n s).fsm = .trailTag := rfl
@[simp] theorem setStart_hdr (n : Nat) : (setStart n s).hdr = s.hdr := rfl
@[simp] theorem setStart_bufmem (n : Nat) : (setStart n s).bufmem = s.bufmem := rfl
@[simp] theorem setStart_written (n : Nat) : (setStart n s).written = s.written := rfl
@[simp] theorem setStart_inputs (n : Nat) : (setStart n s).inputs = s.inputs := rfl
@[simp] theorem setStart_hostResult (n : Nat) : (setStart n s).hostResult = s.hostResult := rfl
@[simp] theorem setStart_event (n : Nat) : (setStart n s).event = s.event := rfl
@[simp] theorem setStart_draws (n : Nat) : (setStart n s).draws = s.draws := rfl
@[simp] theorem setStart_powerUps (n : Nat) : (setStart n s).powerUps = s.powerUps := rfl

@[simp] theorem setEnd_cfg (n : Nat) : (setEnd n s).cfg = s.cfg := rfl
@[simp] theorem setEnd_ie (n : Nat) : (setEnd n s).ie = s.ie := rfl
@[simp] theorem setEnd_status (n : Nat) : (setEnd n s).status = s.status := rfl
@[simp] theorem setEnd_len (n : Nat) : (setEnd n s).len = s.len := rfl
@[simp] theorem setEnd_count (n : Nat) : (setEnd n s).count = s.count := rfl
@[simp] theorem setEnd_startPos (n : Nat) : (setEnd n s).startPos = s.startPos := rfl
@[simp] theorem setEnd_endBound (n : Nat) : (setEnd n s).endBound = BitVec.ofNat 32 n := rfl
@[simp] theorem setEnd_pos (n : Nat) : (setEnd n s).pos = s.pos := rfl
@[simp] theorem setEnd_fsm (n : Nat) : (setEnd n s).fsm = .scan := rfl
@[simp] theorem setEnd_hdr (n : Nat) : (setEnd n s).hdr = s.hdr := rfl
@[simp] theorem setEnd_bufmem (n : Nat) : (setEnd n s).bufmem = s.bufmem := rfl
@[simp] theorem setEnd_written (n : Nat) : (setEnd n s).written = s.written := rfl
@[simp] theorem setEnd_inputs (n : Nat) : (setEnd n s).inputs = s.inputs := rfl
@[simp] theorem setEnd_hostResult (n : Nat) : (setEnd n s).hostResult = s.hostResult := rfl
@[simp] theorem setEnd_event (n : Nat) : (setEnd n s).event = s.event := rfl
@[simp] theorem setEnd_draws (n : Nat) : (setEnd n s).draws = s.draws := rfl
@[simp] theorem setEnd_powerUps (n : Nat) : (setEnd n s).powerUps = s.powerUps := rfl

@[simp] theorem latchHdr_cfg (w : Word) : (latchHdr w s).cfg = s.cfg := rfl
@[simp] theorem latchHdr_ie (w : Word) : (latchHdr w s).ie = s.ie := rfl
@[simp] theorem latchHdr_status (w : Word) : (latchHdr w s).status = s.status := rfl
@[simp] theorem latchHdr_len (w : Word) : (latchHdr w s).len = s.len := rfl
@[simp] theorem latchHdr_count (w : Word) : (latchHdr w s).count = s.count := rfl
@[simp] theorem latchHdr_startPos (w : Word) : (latchHdr w s).startPos = s.startPos := rfl
@[simp] theorem latchHdr_endBound (w : Word) : (latchHdr w s).endBound = s.endBound := rfl
@[simp] theorem latchHdr_pos (w : Word) : (latchHdr w s).pos = s.pos := rfl
@[simp] theorem latchHdr_fsm (w : Word) : (latchHdr w s).fsm = s.fsm := rfl
@[simp] theorem latchHdr_hdr (w : Word) : (latchHdr w s).hdr = w := rfl
@[simp] theorem latchHdr_bufmem (w : Word) : (latchHdr w s).bufmem = s.bufmem := rfl
@[simp] theorem latchHdr_written (w : Word) : (latchHdr w s).written = s.written := rfl
@[simp] theorem latchHdr_inputs (w : Word) : (latchHdr w s).inputs = s.inputs := rfl
@[simp] theorem latchHdr_hostResult (w : Word) : (latchHdr w s).hostResult = s.hostResult := rfl
@[simp] theorem latchHdr_event (w : Word) : (latchHdr w s).event = s.event := rfl
@[simp] theorem latchHdr_draws (w : Word) : (latchHdr w s).draws = s.draws := rfl
@[simp] theorem latchHdr_powerUps (w : Word) : (latchHdr w s).powerUps = s.powerUps := rfl

@[simp] theorem releaseHdr_cfg : (releaseHdr s).cfg = s.cfg := rfl
@[simp] theorem releaseHdr_ie : (releaseHdr s).ie = s.ie := rfl
@[simp] theorem releaseHdr_status : (releaseHdr s).status = s.status := rfl
@[simp] theorem releaseHdr_len : (releaseHdr s).len = s.len := rfl
@[simp] theorem releaseHdr_count : (releaseHdr s).count = s.count := rfl
@[simp] theorem releaseHdr_startPos : (releaseHdr s).startPos = s.startPos := rfl
@[simp] theorem releaseHdr_endBound : (releaseHdr s).endBound = s.endBound := rfl
@[simp] theorem releaseHdr_pos : (releaseHdr s).pos = s.pos := rfl
@[simp] theorem releaseHdr_fsm : (releaseHdr s).fsm = s.fsm := rfl
@[simp] theorem releaseHdr_hdr : (releaseHdr s).hdr = Config.freeWord s.cfg.regBase s.draws := rfl
@[simp] theorem releaseHdr_bufmem : (releaseHdr s).bufmem = s.bufmem := rfl
@[simp] theorem releaseHdr_written : (releaseHdr s).written = s.written := rfl
@[simp] theorem releaseHdr_inputs : (releaseHdr s).inputs = s.inputs := rfl
@[simp] theorem releaseHdr_hostResult : (releaseHdr s).hostResult = s.hostResult := rfl
@[simp] theorem releaseHdr_event : (releaseHdr s).event = s.event := rfl
@[simp] theorem releaseHdr_draws : (releaseHdr s).draws = s.draws + 1 := rfl
@[simp] theorem releaseHdr_powerUps : (releaseHdr s).powerUps = s.powerUps := rfl

@[simp] theorem endScan_cfg : (endScan s).cfg = s.cfg := rfl
@[simp] theorem endScan_ie : (endScan s).ie = s.ie := rfl
@[simp] theorem endScan_status : (endScan s).status = s.status := rfl
@[simp] theorem endScan_len : (endScan s).len = s.len := rfl
@[simp] theorem endScan_count : (endScan s).count = s.count := rfl
@[simp] theorem endScan_startPos : (endScan s).startPos = s.startPos := rfl
@[simp] theorem endScan_endBound : (endScan s).endBound = s.endBound := rfl
@[simp] theorem endScan_pos : (endScan s).pos = s.pos := rfl
@[simp] theorem endScan_fsm : (endScan s).fsm = .finish := rfl
@[simp] theorem endScan_hdr : (endScan s).hdr = s.hdr := rfl
@[simp] theorem endScan_bufmem : (endScan s).bufmem = s.bufmem := rfl
@[simp] theorem endScan_written : (endScan s).written = s.written := rfl
@[simp] theorem endScan_inputs : (endScan s).inputs = s.inputs := rfl
@[simp] theorem endScan_hostResult : (endScan s).hostResult = s.hostResult := rfl
@[simp] theorem endScan_event : (endScan s).event = s.event := rfl
@[simp] theorem endScan_draws : (endScan s).draws = s.draws := rfl
@[simp] theorem endScan_powerUps : (endScan s).powerUps = s.powerUps := rfl

@[simp] theorem boundsPath_cfg : (boundsPath s).cfg = s.cfg := rfl
@[simp] theorem boundsPath_ie : (boundsPath s).ie = s.ie := rfl
@[simp] theorem boundsPath_status : (boundsPath s).status = s.status := rfl
@[simp] theorem boundsPath_len : (boundsPath s).len = s.len := rfl
@[simp] theorem boundsPath_count : (boundsPath s).count = 0 := rfl
@[simp] theorem boundsPath_startPos : (boundsPath s).startPos = s.startPos := rfl
@[simp] theorem boundsPath_endBound : (boundsPath s).endBound = s.endBound := rfl
@[simp] theorem boundsPath_pos : (boundsPath s).pos = s.pos := rfl
@[simp] theorem boundsPath_fsm : (boundsPath s).fsm = .finish := rfl
@[simp] theorem boundsPath_hdr : (boundsPath s).hdr = s.hdr := rfl
@[simp] theorem boundsPath_bufmem : (boundsPath s).bufmem = s.bufmem := rfl
@[simp] theorem boundsPath_written : (boundsPath s).written = s.written := rfl
@[simp] theorem boundsPath_inputs : (boundsPath s).inputs = s.inputs := rfl
@[simp] theorem boundsPath_hostResult : (boundsPath s).hostResult = s.hostResult := rfl
@[simp] theorem boundsPath_event : (boundsPath s).event = .bounds := rfl
@[simp] theorem boundsPath_draws : (boundsPath s).draws = s.draws := rfl
@[simp] theorem boundsPath_powerUps : (boundsPath s).powerUps = s.powerUps := rfl

@[simp] theorem advanceByOne_cfg : (advanceByOne s).cfg = s.cfg := rfl
@[simp] theorem advanceByOne_ie : (advanceByOne s).ie = s.ie := rfl
@[simp] theorem advanceByOne_status : (advanceByOne s).status = s.status := rfl
@[simp] theorem advanceByOne_len : (advanceByOne s).len = s.len := rfl
@[simp] theorem advanceByOne_count : (advanceByOne s).count = s.count := rfl
@[simp] theorem advanceByOne_startPos : (advanceByOne s).startPos = s.startPos := rfl
@[simp] theorem advanceByOne_endBound : (advanceByOne s).endBound = s.endBound := rfl
@[simp] theorem advanceByOne_pos : (advanceByOne s).pos = s.pos + 1 := rfl
@[simp] theorem advanceByOne_fsm : (advanceByOne s).fsm = s.fsm := rfl
@[simp] theorem advanceByOne_hdr : (advanceByOne s).hdr = s.hdr := rfl
@[simp] theorem advanceByOne_bufmem : (advanceByOne s).bufmem = s.bufmem := rfl
@[simp] theorem advanceByOne_written : (advanceByOne s).written = s.written := rfl
@[simp] theorem advanceByOne_inputs : (advanceByOne s).inputs = s.inputs := rfl
@[simp] theorem advanceByOne_hostResult : (advanceByOne s).hostResult = s.hostResult := rfl
@[simp] theorem advanceByOne_event : (advanceByOne s).event = s.event := rfl
@[simp] theorem advanceByOne_draws : (advanceByOne s).draws = s.draws := rfl
@[simp] theorem advanceByOne_powerUps : (advanceByOne s).powerUps = s.powerUps := rfl

@[simp] theorem truncateScan_cfg : (truncateScan s).cfg = s.cfg := rfl
@[simp] theorem truncateScan_ie : (truncateScan s).ie = s.ie := rfl
@[simp] theorem truncateScan_status : (truncateScan s).status = { s.status with trunc := true } := rfl
@[simp] theorem truncateScan_len : (truncateScan s).len = s.len := rfl
@[simp] theorem truncateScan_count : (truncateScan s).count = s.count := rfl
@[simp] theorem truncateScan_startPos : (truncateScan s).startPos = s.startPos := rfl
@[simp] theorem truncateScan_endBound : (truncateScan s).endBound = s.endBound := rfl
@[simp] theorem truncateScan_pos : (truncateScan s).pos = s.pos := rfl
@[simp] theorem truncateScan_fsm : (truncateScan s).fsm = .finish := rfl
@[simp] theorem truncateScan_hdr : (truncateScan s).hdr = s.hdr := rfl
@[simp] theorem truncateScan_bufmem : (truncateScan s).bufmem = s.bufmem := rfl
@[simp] theorem truncateScan_written : (truncateScan s).written = s.written := rfl
@[simp] theorem truncateScan_inputs : (truncateScan s).inputs = s.inputs := rfl
@[simp] theorem truncateScan_hostResult : (truncateScan s).hostResult = s.hostResult := rfl
@[simp] theorem truncateScan_event : (truncateScan s).event = s.event := rfl
@[simp] theorem truncateScan_draws : (truncateScan s).draws = s.draws := rfl
@[simp] theorem truncateScan_powerUps : (truncateScan s).powerUps = s.powerUps := rfl

@[simp] theorem countFrame_cfg (n : Nat) : (countFrame n s).cfg = s.cfg := rfl
@[simp] theorem countFrame_ie (n : Nat) : (countFrame n s).ie = s.ie := rfl
@[simp] theorem countFrame_status (n : Nat) : (countFrame n s).status = s.status := rfl
@[simp] theorem countFrame_len (n : Nat) : (countFrame n s).len = s.len := rfl
@[simp] theorem countFrame_count (n : Nat) : (countFrame n s).count = s.count + 1 := rfl
@[simp] theorem countFrame_startPos (n : Nat) : (countFrame n s).startPos = s.startPos := rfl
@[simp] theorem countFrame_endBound (n : Nat) : (countFrame n s).endBound = s.endBound := rfl
@[simp] theorem countFrame_pos (n : Nat) : (countFrame n s).pos = BitVec.ofNat 32 n := rfl
@[simp] theorem countFrame_fsm (n : Nat) : (countFrame n s).fsm = s.fsm := rfl
@[simp] theorem countFrame_hdr (n : Nat) : (countFrame n s).hdr = s.hdr := rfl
@[simp] theorem countFrame_bufmem (n : Nat) : (countFrame n s).bufmem = s.bufmem := rfl
@[simp] theorem countFrame_written (n : Nat) : (countFrame n s).written = s.written := rfl
@[simp] theorem countFrame_inputs (n : Nat) : (countFrame n s).inputs = s.inputs := rfl
@[simp] theorem countFrame_hostResult (n : Nat) : (countFrame n s).hostResult = s.hostResult := rfl
@[simp] theorem countFrame_event (n : Nat) : (countFrame n s).event = s.event := rfl
@[simp] theorem countFrame_draws (n : Nat) : (countFrame n s).draws = s.draws := rfl
@[simp] theorem countFrame_powerUps (n : Nat) : (countFrame n s).powerUps = s.powerUps := rfl

@[simp] theorem finishScan_cfg : (finishScan s).cfg = s.cfg := rfl
@[simp] theorem finishScan_ie : (finishScan s).ie = s.ie := rfl
@[simp] theorem finishScan_status : (finishScan s).status = { s.status with done := true } := rfl
@[simp] theorem finishScan_len : (finishScan s).len = s.len := rfl
@[simp] theorem finishScan_count : (finishScan s).count = s.count := rfl
@[simp] theorem finishScan_startPos : (finishScan s).startPos = s.startPos := rfl
@[simp] theorem finishScan_endBound : (finishScan s).endBound = s.endBound := rfl
@[simp] theorem finishScan_pos : (finishScan s).pos = s.pos := rfl
@[simp] theorem finishScan_fsm : (finishScan s).fsm = .idle := rfl
@[simp] theorem finishScan_hdr : (finishScan s).hdr = s.hdr := rfl
@[simp] theorem finishScan_bufmem : (finishScan s).bufmem = s.bufmem := rfl
@[simp] theorem finishScan_written : (finishScan s).written = s.written := rfl
@[simp] theorem finishScan_inputs : (finishScan s).inputs = s.inputs := rfl
@[simp] theorem finishScan_hostResult : (finishScan s).hostResult = s.hostResult := rfl
@[simp] theorem finishScan_event : (finishScan s).event = .done := rfl
@[simp] theorem finishScan_draws : (finishScan s).draws = s.draws := rfl
@[simp] theorem finishScan_powerUps : (finishScan s).powerUps = s.powerUps := rfl

@[simp] theorem assertRst_cfg : (assertRst s).cfg = s.cfg := rfl
@[simp] theorem assertRst_ie : (assertRst s).ie = false := rfl
@[simp] theorem assertRst_status : (assertRst s).status = { done := false, err := false, haz := false, trunc := false } := rfl
@[simp] theorem assertRst_len : (assertRst s).len = 0 := rfl
@[simp] theorem assertRst_count : (assertRst s).count = 0 := rfl
@[simp] theorem assertRst_startPos : (assertRst s).startPos = 0 := rfl
@[simp] theorem assertRst_endBound : (assertRst s).endBound = 0 := rfl
@[simp] theorem assertRst_pos : (assertRst s).pos = 0 := rfl
@[simp] theorem assertRst_fsm : (assertRst s).fsm = .idle := rfl
@[simp] theorem assertRst_hdr : (assertRst s).hdr = Config.freeWord s.cfg.regBase s.draws := rfl
@[simp] theorem assertRst_bufmem : (assertRst s).bufmem = s.bufmem := rfl
@[simp] theorem assertRst_written : (assertRst s).written = [] := rfl
@[simp] theorem assertRst_inputs : (assertRst s).inputs = s.inputs := rfl
@[simp] theorem assertRst_hostResult : (assertRst s).hostResult = s.hostResult := rfl
@[simp] theorem assertRst_event : (assertRst s).event = s.event := rfl
@[simp] theorem assertRst_draws : (assertRst s).draws = s.draws + 1 := rfl
@[simp] theorem assertRst_powerUps : (assertRst s).powerUps = s.powerUps := rfl

@[simp] theorem powerUp_cfg : (powerUp s).cfg = s.cfg := rfl
@[simp] theorem powerUp_ie : (powerUp s).ie = false := rfl
@[simp] theorem powerUp_status : (powerUp s).status = { done := false, err := false, haz := false, trunc := false } := rfl
@[simp] theorem powerUp_len : (powerUp s).len = 0 := rfl
@[simp] theorem powerUp_count : (powerUp s).count = 0 := rfl
@[simp] theorem powerUp_startPos : (powerUp s).startPos = 0 := rfl
@[simp] theorem powerUp_endBound : (powerUp s).endBound = 0 := rfl
@[simp] theorem powerUp_pos : (powerUp s).pos = 0 := rfl
@[simp] theorem powerUp_fsm : (powerUp s).fsm = .idle := rfl
@[simp] theorem powerUp_hdr : (powerUp s).hdr = Config.freeWord s.cfg.regBase s.draws := rfl
@[simp] theorem powerUp_bufmem : (powerUp s).bufmem = [] := rfl
@[simp] theorem powerUp_written : (powerUp s).written = [] := rfl
@[simp] theorem powerUp_inputs : (powerUp s).inputs = s.inputs := rfl
@[simp] theorem powerUp_hostResult : (powerUp s).hostResult = s.hostResult := rfl
@[simp] theorem powerUp_event : (powerUp s).event = s.event := rfl
@[simp] theorem powerUp_draws : (powerUp s).draws = s.draws + 1 := rfl
@[simp] theorem powerUp_powerUps : (powerUp s).powerUps = s.powerUps + 1 := rfl

@[simp] theorem beginTurn_cfg (rest : List Input) : (beginTurn rest s).cfg = s.cfg := rfl
@[simp] theorem beginTurn_ie (rest : List Input) : (beginTurn rest s).ie = s.ie := rfl
@[simp] theorem beginTurn_status (rest : List Input) : (beginTurn rest s).status = s.status := rfl
@[simp] theorem beginTurn_len (rest : List Input) : (beginTurn rest s).len = s.len := rfl
@[simp] theorem beginTurn_count (rest : List Input) : (beginTurn rest s).count = s.count := rfl
@[simp] theorem beginTurn_startPos (rest : List Input) : (beginTurn rest s).startPos = s.startPos := rfl
@[simp] theorem beginTurn_endBound (rest : List Input) : (beginTurn rest s).endBound = s.endBound := rfl
@[simp] theorem beginTurn_pos (rest : List Input) : (beginTurn rest s).pos = s.pos := rfl
@[simp] theorem beginTurn_fsm (rest : List Input) : (beginTurn rest s).fsm = s.fsm := rfl
@[simp] theorem beginTurn_hdr (rest : List Input) : (beginTurn rest s).hdr = s.hdr := rfl
@[simp] theorem beginTurn_bufmem (rest : List Input) : (beginTurn rest s).bufmem = s.bufmem := rfl
@[simp] theorem beginTurn_written (rest : List Input) : (beginTurn rest s).written = s.written := rfl
@[simp] theorem beginTurn_inputs (rest : List Input) : (beginTurn rest s).inputs = rest := rfl
@[simp] theorem beginTurn_hostResult (rest : List Input) : (beginTurn rest s).hostResult = s.hostResult := rfl
@[simp] theorem beginTurn_event (rest : List Input) : (beginTurn rest s).event = .none := rfl
@[simp] theorem beginTurn_draws (rest : List Input) : (beginTurn rest s).draws = s.draws := rfl
@[simp] theorem beginTurn_powerUps (rest : List Input) : (beginTurn rest s).powerUps = s.powerUps := rfl

end Sys2Proof.Machine
end

