-- ==== Sys2Proof/Laws/Ops.lean ====
section
/-! SUPPORT. One lemma per shared operation that says everything it can do. -/

namespace Sys2Proof.Machine

/-- `144 · bitrate · 1000 / srate` lies in 96 to 1440 for every pair of legal indices (R184). -/
theorem flen_bounds {bri : BitVec 4} {sri : BitVec 2} (pad : BitVec 1)
    (h0 : bri ≠ 0#4) (h15 : bri ≠ 15#4) (h3 : sri ≠ 3#2) :
    96 ≤ flen bri sri pad ∧ flen bri sri pad ≤ 1441 := by
  have hp := pad.isLt
  have table : ∀ (b : BitVec 4) (r : BitVec 2), b ≠ 0#4 → b ≠ 15#4 → r ≠ 3#2 →
      96 ≤ 144 * ((bitrateRom b).toNat * 1000) / (srateRom r).toNat ∧
        144 * ((bitrateRom b).toNat * 1000) / (srateRom r).toNat ≤ 1440 := by decide
  have h := table bri sri h0 h15 h3
  simp only [flen]
  omega

/-- A low seven-bit group. -/
theorem low7_lt (b : Byte) : low7 b < 128 := Nat.mod_lt _ (by omega)

/-- SIZE is at most 2^28 − 1 (R131). -/
theorem synchsafe_lt (b6 b7 b8 b9 : Byte) : synchsafe b6 b7 b8 b9 < 2 ^ 28 := by
  have h6 := low7_lt b6; have h7 := low7_lt b7; have h8 := low7_lt b8; have h9 := low7_lt b9
  simp only [synchsafe]
  omega

/-- The start position of a leading tag fits its register (R28). -/
theorem setStart_startPos_toNat {n : Nat} (h : n ≤ 268435465) (s : State) :
    (setStart n s).startPos.toNat = n := by
  simp only [setStart_startPos, BitVec.toNat_ofNat]
  omega

/-- An end boundary of at most LEN fits its register. -/
theorem setEnd_endBound_toNat {n : Nat} {s : State} (h : n ≤ s.len.toNat) :
    (setEnd n s).endBound.toNat = n := by
  have := s.len.isLt
  simp only [setEnd_endBound, BitVec.toNat_ofNat]
  omega

/-- A valid candidate ends the scan at the boundary, or is counted. -/
theorem frameStep_cases (bri : BitVec 4) (sri : BitVec 2) (pad : BitVec 1) (s : State) :
    (s.endBound.toNat ≤ s.pos.toNat + flen bri sri pad ∧
      frameStep bri sri pad s = releaseHdr (truncateScan s)) ∨
    (s.pos.toNat + flen bri sri pad < s.endBound.toNat ∧
      frameStep bri sri pad s = releaseHdr (countFrame (s.pos.toNat + flen bri sri pad) s)) := by
  by_cases h : s.endBound.toNat ≤ s.pos.toNat + flen bri sri pad
  · exact .inl ⟨h, by simp [frameStep, State.reachesEnd, h]⟩
  · exact .inr ⟨Nat.not_le.1 h, by simp [frameStep, State.reachesEnd, h]⟩

/-- START = 1: a hazard while BUSY, a contract error where LEN is too long, and otherwise a scan. -/
theorem start_cases (s : State) :
    (s.fsm ≠ .idle ∧ start s = raiseHazard .start s) ∨
    (s.fsm = .idle ∧ s.cfg.bufMax.toNat < s.len.toNat ∧ start s = contractError s) ∨
    (s.fsm = .idle ∧ s.len.toNat ≤ s.cfg.bufMax.toNat ∧ start s = acceptStart s) := by
  by_cases hb : s.fsm = .idle
  · by_cases hl : s.cfg.bufMax.toNat < s.len.toNat
    · exact .inr (.inl ⟨hb, hl, by simp [start, State.busy, hb, hl]⟩)
    · exact .inr (.inr ⟨hb, Nat.not_lt.1 hl, by simp [start, State.busy, hb, hl]⟩)
  · exact .inl ⟨hb, by simp [start, State.busy, hb]⟩

/-- BUSY is FSM ≠ IDLE. -/
theorem State.busy_eq_true {s : State} : s.busy = true ↔ s.fsm ≠ .idle := by
  simp [State.busy]

theorem State.guard_eq_true {s : State} : s.guard = true ↔ s.pos.toNat + 4 < s.endBound.toNat := by
  simp [State.guard]

theorem State.roomForId3v2_eq_true {s : State} : s.roomForId3v2 = true ↔ 10 ≤ s.len.toNat := by
  simp [State.roomForId3v2]

theorem State.roomForId3v1_eq_true {s : State} : s.roomForId3v1 = true ↔ 128 ≤ s.len.toNat := by
  simp [State.roomForId3v1]

theorem State.outOfBounds_eq_true {s : State} :
    s.outOfBounds = true ↔ s.len.toNat ≤ s.pos.toNat + 3 := by
  simp [State.outOfBounds]

/-- The STATUS word as a number, bit by bit (R22). -/
theorem State.statusWord_toNat (s : State) :
    s.statusWord.toNat = s.status.trunc.toNat * 16 + s.status.haz.toNat * 8 + s.status.err.toNat * 4 +
      s.status.done.toNat * 2 + s.busy.toNat := by
  rcases hs : s.status with ⟨d, e, h, t⟩
  simp only [State.statusWord, hs]
  cases d <;> cases e <;> cases h <;> cases t <;> cases s.busy <;> rfl

@[simp] theorem Status.acknowledge_trunc (st : Status) (v : Word) :
    (st.acknowledge v).trunc = st.trunc := rfl
@[simp] theorem Status.acknowledge_done (st : Status) (v : Word) :
    (st.acknowledge v).done = (st.done && !v.getLsbD 1) := rfl
@[simp] theorem Status.acknowledge_err (st : Status) (v : Word) :
    (st.acknowledge v).err = (st.err && !v.getLsbD 2) := rfl
@[simp] theorem Status.acknowledge_haz (st : Status) (v : Word) :
    (st.acknowledge v).haz = (st.haz && !v.getLsbD 3) := rfl

/-- Three written bytes are read. -/
theorem bufRead3_ok {s : State} {a : Nat} (h0 : (s.loadedByte a).isSome = true)
    (h1 : (s.loadedByte (a + 1)).isSome = true)
    (h2 : (s.loadedByte (a + 2)).isSome = true) (ha : a + 2 < s.cfg.bufMax.toNat) :
    ∃ b0 b1 b2, bufRead3 s a = .ok (b0, b1, b2) := by
  obtain ⟨b0, e0⟩ := Option.isSome_iff_exists.1 h0
  obtain ⟨b1, e1⟩ := Option.isSome_iff_exists.1 h1
  obtain ⟨b2, e2⟩ := Option.isSome_iff_exists.1 h2
  exact ⟨b0, b1, b2, bufRead3_eq_ok (bufRead_of_read (by omega) e0) (bufRead_of_read (by omega) e1)
    (bufRead_of_read (by omega) e2)⟩

/-- Four written bytes are read. -/
theorem bufRead4_ok {s : State} {a : Nat} (h0 : (s.loadedByte a).isSome = true)
    (h1 : (s.loadedByte (a + 1)).isSome = true)
    (h2 : (s.loadedByte (a + 2)).isSome = true)
    (h3 : (s.loadedByte (a + 3)).isSome = true) (ha : a + 3 < s.cfg.bufMax.toNat) :
    ∃ b0 b1 b2 b3, bufRead4 s a = .ok (b0, b1, b2, b3) := by
  obtain ⟨b0, e0⟩ := Option.isSome_iff_exists.1 h0
  obtain ⟨b1, e1⟩ := Option.isSome_iff_exists.1 h1
  obtain ⟨b2, e2⟩ := Option.isSome_iff_exists.1 h2
  obtain ⟨b3, e3⟩ := Option.isSome_iff_exists.1 h3
  exact ⟨b0, b1, b2, b3, bufRead4_eq_ok (bufRead_of_read (by omega) e0)
    (bufRead_of_read (by omega) e1) (bufRead_of_read (by omega) e2) (bufRead_of_read (by omega) e3)⟩

/-! ## Updates that leave what the scanner reads -/

@[simp] theorem loadedByte_beginTurn (rest : List Input) (s : State) (a : Nat) :
    (beginTurn rest s).loadedByte a = s.loadedByte a := rfl
@[simp] theorem bufRead_beginTurn (rest : List Input) (s : State) (a : Nat) :
    bufRead (beginTurn rest s) a = bufRead s a := rfl
@[simp] theorem bufRead3_beginTurn (rest : List Input) (s : State) (a : Nat) :
    bufRead3 (beginTurn rest s) a = bufRead3 s a := rfl
@[simp] theorem bufRead4_beginTurn (rest : List Input) (s : State) (a : Nat) :
    bufRead4 (beginTurn rest s) a = bufRead4 s a := rfl
@[simp] theorem memRead4_beginTurn (rest : List Input) (s : State) (a : Nat) :
    memRead4 (beginTurn rest s) a = memRead4 s a := rfl
@[simp] theorem hostByte_beginTurn (rest : List Input) (s : State) (a : Nat) :
    hostByte (beginTurn rest s) a = hostByte s a := rfl

/-- After RST and after a power-up the scanner may use no byte (R66; log 5). -/
@[simp] theorem loadedByte_assertRst (s : State) (a : Nat) : (assertRst s).loadedByte a = none := rfl
@[simp] theorem loadedByte_powerUp (s : State) (a : Nat) : (powerUp s).loadedByte a = none := rfl

/-- RST keeps every byte for the host (R260); a power-up leaves the free bytes of its number (log 3). -/
@[simp] theorem hostByte_assertRst (s : State) (a : Nat) : hostByte (assertRst s) a = hostByte s a := rfl
@[simp] theorem hostByte_powerUp (s : State) (a : Nat) :
    hostByte (powerUp s) a = Config.freeByte s.cfg.regBase (s.powerUps + 1) a := rfl

/-- The first missing one of three bytes is named by the fault. -/
theorem bufRead3_error {s : State} {a k : Nat} {f : Fault} (hk : k < 3)
    (hb : ∀ j, j < k → ∃ b, bufRead s (a + j) = .ok b) (h : bufRead s (a + k) = .error f) :
    bufRead3 s a = .error f := by
  match k, hk with
  | 0, _ => simp only [Nat.add_zero] at h; simp [bufRead3, h]
  | 1, _ =>
    obtain ⟨b0, h0⟩ := hb 0 (by omega)
    simp only [Nat.add_zero] at h0
    simp [bufRead3, h0, h]
  | 2, _ =>
    obtain ⟨b0, h0⟩ := hb 0 (by omega)
    obtain ⟨b1, h1⟩ := hb 1 (by omega)
    simp only [Nat.add_zero] at h0
    simp [bufRead3, h0, h1, h]

/-- The first missing one of four bytes is named by the fault. -/
theorem bufRead4_error {s : State} {a k : Nat} {f : Fault} (hk : k < 4)
    (hb : ∀ j, j < k → ∃ b, bufRead s (a + j) = .ok b) (h : bufRead s (a + k) = .error f) :
    bufRead4 s a = .error f := by
  by_cases hk3 : k < 3
  · simp [bufRead4, bufRead3_error hk3 hb h]
  · obtain rfl : k = 3 := by omega
    obtain ⟨b0, h0⟩ := hb 0 (by omega)
    obtain ⟨b1, h1⟩ := hb 1 (by omega)
    obtain ⟨b2, h2⟩ := hb 2 (by omega)
    simp only [Nat.add_zero] at h0
    simp [bufRead4, bufRead3_eq_ok h0 h1 h2, h]

end Sys2Proof.Machine
end

