-- ==== Sys2Proof/Laws/PerInstr.lean ====
section
/-! SUPPORT. Per instruction: the encoder writes what the opcode table's row matches. The mask and match of
every row are written out here from spec/opcode_table.json, apart from the encoder. -/

namespace Sys2Proof

/-- Masking with one contiguous field of ones, as arithmetic. -/
theorem and_field_toNat (w : Word) (lo len : Nat) (h : lo + len ≤ 32) :
    (w &&& (BitVec.ofNat 32 ((2 ^ len - 1) * 2 ^ lo))).toNat =
      w.toNat / 2 ^ lo % 2 ^ len * 2 ^ lo := by
  have hlt : (2 ^ len - 1) * 2 ^ lo < 2 ^ 32 := by
    have h1 : 2 ^ len * 2 ^ lo ≤ 2 ^ 32 := by
      rw [← Nat.pow_add]
      exact Nat.pow_le_pow_right (by omega) (by omega)
    have h3 : 0 < 2 ^ len := Nat.two_pow_pos len
    exact Nat.lt_of_lt_of_le (Nat.mul_lt_mul_of_pos_right (by omega) (Nat.two_pow_pos lo)) h1
  rw [BitVec.toNat_and, BitVec.toNat_ofNat, Nat.mod_eq_of_lt hlt]
  apply Nat.eq_of_testBit_eq
  intro i
  rw [Nat.testBit_and, Nat.testBit_mul_two_pow, Nat.testBit_mul_two_pow,
    Nat.testBit_two_pow_sub_one, Nat.testBit_mod_two_pow, Nat.testBit_div_two_pow]
  by_cases hi : lo ≤ i
  · simp [hi, Nat.sub_add_cancel hi, Bool.and_comm]
  · simp [hi]

/-- Masking with two fields of ones, the higher one down to bit `hi`. -/
theorem and_two_fields_toNat (w : Word) (hi n lo len : Nat) (h1 : hi + n ≤ 32) (h2 : lo + len ≤ hi) :
    (w &&& (BitVec.ofNat 32 ((2 ^ n - 1) * 2 ^ hi) ||| BitVec.ofNat 32 ((2 ^ len - 1) * 2 ^ lo))).toNat =
      w.toNat / 2 ^ hi % 2 ^ n * 2 ^ hi + w.toNat / 2 ^ lo % 2 ^ len * 2 ^ lo := by
  have hlt : w.toNat / 2 ^ lo % 2 ^ len * 2 ^ lo < 2 ^ hi := by
    have h3 : 2 ^ len * 2 ^ lo ≤ 2 ^ hi := by
      rw [← Nat.pow_add]
      exact Nat.pow_le_pow_right (by omega) (by omega)
    exact Nat.lt_of_lt_of_le (Nat.mul_lt_mul_of_pos_right
      (Nat.mod_lt _ (Nat.two_pow_pos len)) (Nat.two_pow_pos lo)) h3
  rw [BitVec.and_or_distrib_left, BitVec.toNat_or, and_field_toNat w hi n h1,
    and_field_toNat w lo len (by omega), ← Nat.shiftLeft_eq _ hi,
    ← Nat.shiftLeft_add_eq_or_of_lt hlt]

/-- What the mask of R76 keeps under MPEG_STD. -/
theorem frameMask_mpegStd_toNat (w : Word) :
    (w &&& frameMask .mpegStd).toNat =
      w.toNat / 2 ^ 17 % 2 ^ 15 * 2 ^ 17 + w.toNat / 2 ^ 10 % 2 ^ 6 * 2 ^ 10 :=
  and_two_fields_toNat w 17 15 10 6 (by omega) (by omega)

/-- What the mask of R76 keeps under DOC_TABLE. -/
theorem frameMask_docTable_toNat (w : Word) :
    (w &&& frameMask .docTable).toNat = w.toNat / 2 ^ 11 % 2 ^ 21 * 2 ^ 11 :=
  and_field_toNat w 11 21 (by omega)

namespace Laws.TableRow

/-- A row of the opcode table: its match and mask in its format. REG32 rows are matched on
`(direction << 12) | offset`, exactly (mask 0x1FFF) or by the direction alone (mask 0x1000). -/
inductive Row where
  | hdr (mask word : Word)
  | notHdr (mask word : Word)
  | mark (bytes : List Byte)
  | regKey (key : Nat)
  | regDir (key : Nat)
  | buf (dir : Nat)
  | malformed

/-- The row of every constructor, from spec/opcode_table.json. -/
def row : Instr → Row
  | .frameMpegStdB1S0 _ _ _ => .hdr 0xFFFEFC00 0xFFFA1000
  | .frameMpegStdB1S1 _ _ _ => .hdr 0xFFFEFC00 0xFFFA1400
  | .frameMpegStdB1S2 _ _ _ => .hdr 0xFFFEFC00 0xFFFA1800
  | .frameMpegStdB2S0 _ _ _ => .hdr 0xFFFEFC00 0xFFFA2000
  | .frameMpegStdB2S1 _ _ _ => .hdr 0xFFFEFC00 0xFFFA2400
  | .frameMpegStdB2S2 _ _ _ => .hdr 0xFFFEFC00 0xFFFA2800
  | .frameMpegStdB3S0 _ _ _ => .hdr 0xFFFEFC00 0xFFFA3000
  | .frameMpegStdB3S1 _ _ _ => .hdr 0xFFFEFC00 0xFFFA3400
  | .frameMpegStdB3S2 _ _ _ => .hdr 0xFFFEFC00 0xFFFA3800
  | .frameMpegStdB4S0 _ _ _ => .hdr 0xFFFEFC00 0xFFFA4000
  | .frameMpegStdB4S1 _ _ _ => .hdr 0xFFFEFC00 0xFFFA4400
  | .frameMpegStdB4S2 _ _ _ => .hdr 0xFFFEFC00 0xFFFA4800
  | .frameMpegStdB5S0 _ _ _ => .hdr 0xFFFEFC00 0xFFFA5000
  | .frameMpegStdB5S1 _ _ _ => .hdr 0xFFFEFC00 0xFFFA5400
  | .frameMpegStdB5S2 _ _ _ => .hdr 0xFFFEFC00 0xFFFA5800
  | .frameMpegStdB6S0 _ _ _ => .hdr 0xFFFEFC00 0xFFFA6000
  | .frameMpegStdB6S1 _ _ _ => .hdr 0xFFFEFC00 0xFFFA6400
  | .frameMpegStdB6S2 _ _ _ => .hdr 0xFFFEFC00 0xFFFA6800
  | .frameMpegStdB7S0 _ _ _ => .hdr 0xFFFEFC00 0xFFFA7000
  | .frameMpegStdB7S1 _ _ _ => .hdr 0xFFFEFC00 0xFFFA7400
  | .frameMpegStdB7S2 _ _ _ => .hdr 0xFFFEFC00 0xFFFA7800
  | .frameMpegStdB8S0 _ _ _ => .hdr 0xFFFEFC00 0xFFFA8000
  | .frameMpegStdB8S1 _ _ _ => .hdr 0xFFFEFC00 0xFFFA8400
  | .frameMpegStdB8S2 _ _ _ => .hdr 0xFFFEFC00 0xFFFA8800
  | .frameMpegStdB9S0 _ _ _ => .hdr 0xFFFEFC00 0xFFFA9000
  | .frameMpegStdB9S1 _ _ _ => .hdr 0xFFFEFC00 0xFFFA9400
  | .frameMpegStdB9S2 _ _ _ => .hdr 0xFFFEFC00 0xFFFA9800
  | .frameMpegStdB10S0 _ _ _ => .hdr 0xFFFEFC00 0xFFFAA000
  | .frameMpegStdB10S1 _ _ _ => .hdr 0xFFFEFC00 0xFFFAA400
  | .frameMpegStdB10S2 _ _ _ => .hdr 0xFFFEFC00 0xFFFAA800
  | .frameMpegStdB11S0 _ _ _ => .hdr 0xFFFEFC00 0xFFFAB000
  | .frameMpegStdB11S1 _ _ _ => .hdr 0xFFFEFC00 0xFFFAB400
  | .frameMpegStdB11S2 _ _ _ => .hdr 0xFFFEFC00 0xFFFAB800
  | .frameMpegStdB12S0 _ _ _ => .hdr 0xFFFEFC00 0xFFFAC000
  | .frameMpegStdB12S1 _ _ _ => .hdr 0xFFFEFC00 0xFFFAC400
  | .frameMpegStdB12S2 _ _ _ => .hdr 0xFFFEFC00 0xFFFAC800
  | .frameMpegStdB13S0 _ _ _ => .hdr 0xFFFEFC00 0xFFFAD000
  | .frameMpegStdB13S1 _ _ _ => .hdr 0xFFFEFC00 0xFFFAD400
  | .frameMpegStdB13S2 _ _ _ => .hdr 0xFFFEFC00 0xFFFAD800
  | .frameMpegStdB14S0 _ _ _ => .hdr 0xFFFEFC00 0xFFFAE000
  | .frameMpegStdB14S1 _ _ _ => .hdr 0xFFFEFC00 0xFFFAE400
  | .frameMpegStdB14S2 _ _ _ => .hdr 0xFFFEFC00 0xFFFAE800
  | .frameDocTableB1S0 _ _ => .hdr 0xFFFFF800 0xFFFA2000
  | .frameDocTableB1S1 _ _ => .hdr 0xFFFFF800 0xFFFA2800
  | .frameDocTableB1S2 _ _ => .hdr 0xFFFFF800 0xFFFA3000
  | .frameDocTableB2S0 _ _ => .hdr 0xFFFFF800 0xFFFA4000
  | .frameDocTableB2S1 _ _ => .hdr 0xFFFFF800 0xFFFA4800
  | .frameDocTableB2S2 _ _ => .hdr 0xFFFFF800 0xFFFA5000
  | .frameDocTableB3S0 _ _ => .hdr 0xFFFFF800 0xFFFA6000
  | .frameDocTableB3S1 _ _ => .hdr 0xFFFFF800 0xFFFA6800
  | .frameDocTableB3S2 _ _ => .hdr 0xFFFFF800 0xFFFA7000
  | .frameDocTableB4S0 _ _ => .hdr 0xFFFFF800 0xFFFA8000
  | .frameDocTableB4S1 _ _ => .hdr 0xFFFFF800 0xFFFA8800
  | .frameDocTableB4S2 _ _ => .hdr 0xFFFFF800 0xFFFA9000
  | .frameDocTableB5S0 _ _ => .hdr 0xFFFFF800 0xFFFAA000
  | .frameDocTableB5S1 _ _ => .hdr 0xFFFFF800 0xFFFAA800
  | .frameDocTableB5S2 _ _ => .hdr 0xFFFFF800 0xFFFAB000
  | .frameDocTableB6S0 _ _ => .hdr 0xFFFFF800 0xFFFAC000
  | .frameDocTableB6S1 _ _ => .hdr 0xFFFFF800 0xFFFAC800
  | .frameDocTableB6S2 _ _ => .hdr 0xFFFFF800 0xFFFAD000
  | .frameDocTableB7S0 _ _ => .hdr 0xFFFFF800 0xFFFAE000
  | .frameDocTableB7S1 _ _ => .hdr 0xFFFFF800 0xFFFAE800
  | .frameDocTableB7S2 _ _ => .hdr 0xFFFFF800 0xFFFAF000
  | .frameDocTableB8S0 _ _ => .hdr 0xFFFFF800 0xFFFB0000
  | .frameDocTableB8S1 _ _ => .hdr 0xFFFFF800 0xFFFB0800
  | .frameDocTableB8S2 _ _ => .hdr 0xFFFFF800 0xFFFB1000
  | .frameDocTableB9S0 _ _ => .hdr 0xFFFFF800 0xFFFB2000
  | .frameDocTableB9S1 _ _ => .hdr 0xFFFFF800 0xFFFB2800
  | .frameDocTableB9S2 _ _ => .hdr 0xFFFFF800 0xFFFB3000
  | .frameDocTableB10S0 _ _ => .hdr 0xFFFFF800 0xFFFB4000
  | .frameDocTableB10S1 _ _ => .hdr 0xFFFFF800 0xFFFB4800
  | .frameDocTableB10S2 _ _ => .hdr 0xFFFFF800 0xFFFB5000
  | .frameDocTableB11S0 _ _ => .hdr 0xFFFFF800 0xFFFB6000
  | .frameDocTableB11S1 _ _ => .hdr 0xFFFFF800 0xFFFB6800
  | .frameDocTableB11S2 _ _ => .hdr 0xFFFFF800 0xFFFB7000
  | .frameDocTableB12S0 _ _ => .hdr 0xFFFFF800 0xFFFB8000
  | .frameDocTableB12S1 _ _ => .hdr 0xFFFFF800 0xFFFB8800
  | .frameDocTableB12S2 _ _ => .hdr 0xFFFFF800 0xFFFB9000
  | .frameDocTableB13S0 _ _ => .hdr 0xFFFFF800 0xFFFBA000
  | .frameDocTableB13S1 _ _ => .hdr 0xFFFFF800 0xFFFBA800
  | .frameDocTableB13S2 _ _ => .hdr 0xFFFFF800 0xFFFBB000
  | .frameDocTableB14S0 _ _ => .hdr 0xFFFFF800 0xFFFBC000
  | .frameDocTableB14S1 _ _ => .hdr 0xFFFFF800 0xFFFBC800
  | .frameDocTableB14S2 _ _ => .hdr 0xFFFFF800 0xFFFBD000
  | .reject _ => .hdr 0x00000000 0x00000000
  | .rejSync _ _ => .notHdr 0xFFE00000 0xFFE00000
  | .rejVersion0 _ => .hdr 0xFFF80000 0xFFE00000
  | .rejVersion1 _ => .hdr 0xFFF80000 0xFFE80000
  | .rejVersion2 _ => .hdr 0xFFF80000 0xFFF00000
  | .rejLayer0 _ => .hdr 0xFFFE0000 0xFFF80000
  | .rejLayer2 _ => .hdr 0xFFFE0000 0xFFFC0000
  | .rejLayer3 _ => .hdr 0xFFFE0000 0xFFFE0000
  | .rejFreeMpegStd _ _ => .hdr 0xFFFEF000 0xFFFA0000
  | .rejBr15MpegStd _ _ => .hdr 0xFFFEF000 0xFFFAF000
  | .rejSr3MpegStd _ _ _ => .hdr 0xFFFE0C00 0xFFFA0C00
  | .rejFreeDocTable _ => .hdr 0xFFFFE000 0xFFFA0000
  | .rejBr15DocTable _ => .hdr 0xFFFFE000 0xFFFBE000
  | .rejSr3DocTable _ _ => .hdr 0xFFFE1800 0xFFFA1800
  | .id3v2Mark _ _ _ _ => .mark [0x49, 0x44, 0x33]
  | .id3v1Mark => .mark [0x54, 0x41, 0x47]
  | .rdCtrl => .regKey 0x0000
  | .rdStatus => .regKey 0x0004
  | .rdLen => .regKey 0x0008
  | .rdCount => .regKey 0x000C
  | .rdStartPos => .regKey 0x0010
  | .rdEndBound => .regKey 0x0014
  | .rdPos => .regKey 0x0018
  | .rdCfg => .regKey 0x001C
  | .rdBufmax => .regKey 0x0020
  | .rdRsvd _ => .regDir 0x0000
  | .wrCtrl _ => .regKey 0x1000
  | .wrStatus _ => .regKey 0x1004
  | .wrLen _ => .regKey 0x1008
  | .wrRoCount _ => .regKey 0x100C
  | .wrRoStartPos _ => .regKey 0x1010
  | .wrRoEndBound _ => .regKey 0x1014
  | .wrRoPos _ => .regKey 0x1018
  | .wrRoCfg _ => .regKey 0x101C
  | .wrRoBufmax _ => .regKey 0x1020
  | .wrRsvd _ _ => .regDir 0x1000
  | .bufWr _ _ => .buf 0x1
  | .bufRd _ => .buf 0x0
  | .badReg _ _ _ _ => .malformed

/-- The direction bit of R82 and R83. -/
def dirBit : Dir → Nat
  | .read => 0
  | .write => 1

/-- A raw form matches a row. -/
def Matches (c : Config) : Row → Encoding → Prop
  | .hdr mask word, .hdr32 w => w &&& mask = word
  | .notHdr mask word, .hdr32 w => w &&& mask ≠ word
  | .mark bs, .id3v2Hdr xs => xs.take 3 = bs ∧ xs.length = 10
  | .mark bs, .id3v1 xs => xs.take 3 = bs ∧ xs.length = 128
  | .regKey k, .bus a =>
    a.width = 32 ∧ c.regBase ≤ a.addr ∧ dirBit a.dir * 0x1000 + (a.addr - c.regBase) = k
  | .regDir k, .bus a =>
    a.width = 32 ∧ c.regBase ≤ a.addr ∧ a.addr < c.regBase + 0x1000 ∧ dirBit a.dir * 0x1000 = k
  | .buf d, .bus a => a.width = 8 ∧ c.bufBase ≤ a.addr ∧ dirBit a.dir = d
  | .malformed, .bus a =>
    c.regBase ≤ a.addr ∧ a.addr < c.regBase + 0x1000 ∧
      (a.width ≠ 32 ∨ (a.addr - c.regBase) % 4 ≠ 0)
  | _, _ => False

/-- The encoding of a well-formed instruction matches the instruction's row of the opcode table. -/
def Statement (i : Instr) : Prop :=
  ∀ c : Config, i.WellFormed c = true → Matches c (row i) (encode c i)

theorem mpegStd_word (prot : BitVec 1) (bri : BitVec 4) (sri : BitVec 2) (pad : BitVec 1)
    (low : BitVec 9) :
    packMpegStd prot bri sri pad low &&& 0xFFFEFC00 =
      BitVec.ofNat 32 (0xFFFA0000 + bri.toNat * 2 ^ 12 + sri.toNat * 2 ^ 10) := by
  have h1 := prot.isLt; have h2 := bri.isLt; have h3 := sri.isLt; have h4 := pad.isLt
  have h5 := low.isLt
  apply BitVec.eq_of_toNat_eq
  refine (frameMask_mpegStd_toNat _).trans ?_
  rw [packMpegStd_toNat, BitVec.toNat_ofNat]
  omega

theorem docTable_word (bri : BitVec 4) (sri : BitVec 2) (pad : BitVec 1) (low : BitVec 10) :
    packDocTable bri sri pad low &&& 0xFFFFF800 =
      BitVec.ofNat 32 (0xFFFA0000 + bri.toNat * 2 ^ 13 + sri.toNat * 2 ^ 11) := by
  have h2 := bri.isLt; have h3 := sri.isLt; have h4 := pad.isLt; have h5 := low.isLt
  apply BitVec.eq_of_toNat_eq
  refine (frameMask_docTable_toNat _).trans ?_
  rw [packDocTable_toNat, BitVec.toNat_ofNat]
  omega

theorem frameMpegStdB1S0 (prot : BitVec 1) (pad : BitVec 1) (low : BitVec 9) : Statement (.frameMpegStdB1S0 prot pad low) :=
  fun _ _ => mpegStd_word prot 1 0 pad low
theorem frameMpegStdB1S1 (prot : BitVec 1) (pad : BitVec 1) (low : BitVec 9) : Statement (.frameMpegStdB1S1 prot pad low) :=
  fun _ _ => mpegStd_word prot 1 1 pad low
theorem frameMpegStdB1S2 (prot : BitVec 1) (pad : BitVec 1) (low : BitVec 9) : Statement (.frameMpegStdB1S2 prot pad low) :=
  fun _ _ => mpegStd_word prot 1 2 pad low
theorem frameMpegStdB2S0 (prot : BitVec 1) (pad : BitVec 1) (low : BitVec 9) : Statement (.frameMpegStdB2S0 prot pad low) :=
  fun _ _ => mpegStd_word prot 2 0 pad low
theorem frameMpegStdB2S1 (prot : BitVec 1) (pad : BitVec 1) (low : BitVec 9) : Statement (.frameMpegStdB2S1 prot pad low) :=
  fun _ _ => mpegStd_word prot 2 1 pad low
theorem frameMpegStdB2S2 (prot : BitVec 1) (pad : BitVec 1) (low : BitVec 9) : Statement (.frameMpegStdB2S2 prot pad low) :=
  fun _ _ => mpegStd_word prot 2 2 pad low
theorem frameMpegStdB3S0 (prot : BitVec 1) (pad : BitVec 1) (low : BitVec 9) : Statement (.frameMpegStdB3S0 prot pad low) :=
  fun _ _ => mpegStd_word prot 3 0 pad low
theorem frameMpegStdB3S1 (prot : BitVec 1) (pad : BitVec 1) (low : BitVec 9) : Statement (.frameMpegStdB3S1 prot pad low) :=
  fun _ _ => mpegStd_word prot 3 1 pad low
theorem frameMpegStdB3S2 (prot : BitVec 1) (pad : BitVec 1) (low : BitVec 9) : Statement (.frameMpegStdB3S2 prot pad low) :=
  fun _ _ => mpegStd_word prot 3 2 pad low
theorem frameMpegStdB4S0 (prot : BitVec 1) (pad : BitVec 1) (low : BitVec 9) : Statement (.frameMpegStdB4S0 prot pad low) :=
  fun _ _ => mpegStd_word prot 4 0 pad low
theorem frameMpegStdB4S1 (prot : BitVec 1) (pad : BitVec 1) (low : BitVec 9) : Statement (.frameMpegStdB4S1 prot pad low) :=
  fun _ _ => mpegStd_word prot 4 1 pad low
theorem frameMpegStdB4S2 (prot : BitVec 1) (pad : BitVec 1) (low : BitVec 9) : Statement (.frameMpegStdB4S2 prot pad low) :=
  fun _ _ => mpegStd_word prot 4 2 pad low
theorem frameMpegStdB5S0 (prot : BitVec 1) (pad : BitVec 1) (low : BitVec 9) : Statement (.frameMpegStdB5S0 prot pad low) :=
  fun _ _ => mpegStd_word prot 5 0 pad low
theorem frameMpegStdB5S1 (prot : BitVec 1) (pad : BitVec 1) (low : BitVec 9) : Statement (.frameMpegStdB5S1 prot pad low) :=
  fun _ _ => mpegStd_word prot 5 1 pad low
theorem frameMpegStdB5S2 (prot : BitVec 1) (pad : BitVec 1) (low : BitVec 9) : Statement (.frameMpegStdB5S2 prot pad low) :=
  fun _ _ => mpegStd_word prot 5 2 pad low
theorem frameMpegStdB6S0 (prot : BitVec 1) (pad : BitVec 1) (low : BitVec 9) : Statement (.frameMpegStdB6S0 prot pad low) :=
  fun _ _ => mpegStd_word prot 6 0 pad low
theorem frameMpegStdB6S1 (prot : BitVec 1) (pad : BitVec 1) (low : BitVec 9) : Statement (.frameMpegStdB6S1 prot pad low) :=
  fun _ _ => mpegStd_word prot 6 1 pad low
theorem frameMpegStdB6S2 (prot : BitVec 1) (pad : BitVec 1) (low : BitVec 9) : Statement (.frameMpegStdB6S2 prot pad low) :=
  fun _ _ => mpegStd_word prot 6 2 pad low
theorem frameMpegStdB7S0 (prot : BitVec 1) (pad : BitVec 1) (low : BitVec 9) : Statement (.frameMpegStdB7S0 prot pad low) :=
  fun _ _ => mpegStd_word prot 7 0 pad low
theorem frameMpegStdB7S1 (prot : BitVec 1) (pad : BitVec 1) (low : BitVec 9) : Statement (.frameMpegStdB7S1 prot pad low) :=
  fun _ _ => mpegStd_word prot 7 1 pad low
theorem frameMpegStdB7S2 (prot : BitVec 1) (pad : BitVec 1) (low : BitVec 9) : Statement (.frameMpegStdB7S2 prot pad low) :=
  fun _ _ => mpegStd_word prot 7 2 pad low
theorem frameMpegStdB8S0 (prot : BitVec 1) (pad : BitVec 1) (low : BitVec 9) : Statement (.frameMpegStdB8S0 prot pad low) :=
  fun _ _ => mpegStd_word prot 8 0 pad low
theorem frameMpegStdB8S1 (prot : BitVec 1) (pad : BitVec 1) (low : BitVec 9) : Statement (.frameMpegStdB8S1 prot pad low) :=
  fun _ _ => mpegStd_word prot 8 1 pad low
theorem frameMpegStdB8S2 (prot : BitVec 1) (pad : BitVec 1) (low : BitVec 9) : Statement (.frameMpegStdB8S2 prot pad low) :=
  fun _ _ => mpegStd_word prot 8 2 pad low
theorem frameMpegStdB9S0 (prot : BitVec 1) (pad : BitVec 1) (low : BitVec 9) : Statement (.frameMpegStdB9S0 prot pad low) :=
  fun _ _ => mpegStd_word prot 9 0 pad low
theorem frameMpegStdB9S1 (prot : BitVec 1) (pad : BitVec 1) (low : BitVec 9) : Statement (.frameMpegStdB9S1 prot pad low) :=
  fun _ _ => mpegStd_word prot 9 1 pad low
theorem frameMpegStdB9S2 (prot : BitVec 1) (pad : BitVec 1) (low : BitVec 9) : Statement (.frameMpegStdB9S2 prot pad low) :=
  fun _ _ => mpegStd_word prot 9 2 pad low
theorem frameMpegStdB10S0 (prot : BitVec 1) (pad : BitVec 1) (low : BitVec 9) : Statement (.frameMpegStdB10S0 prot pad low) :=
  fun _ _ => mpegStd_word prot 10 0 pad low
theorem frameMpegStdB10S1 (prot : BitVec 1) (pad : BitVec 1) (low : BitVec 9) : Statement (.frameMpegStdB10S1 prot pad low) :=
  fun _ _ => mpegStd_word prot 10 1 pad low
theorem frameMpegStdB10S2 (prot : BitVec 1) (pad : BitVec 1) (low : BitVec 9) : Statement (.frameMpegStdB10S2 prot pad low) :=
  fun _ _ => mpegStd_word prot 10 2 pad low
theorem frameMpegStdB11S0 (prot : BitVec 1) (pad : BitVec 1) (low : BitVec 9) : Statement (.frameMpegStdB11S0 prot pad low) :=
  fun _ _ => mpegStd_word prot 11 0 pad low
theorem frameMpegStdB11S1 (prot : BitVec 1) (pad : BitVec 1) (low : BitVec 9) : Statement (.frameMpegStdB11S1 prot pad low) :=
  fun _ _ => mpegStd_word prot 11 1 pad low
theorem frameMpegStdB11S2 (prot : BitVec 1) (pad : BitVec 1) (low : BitVec 9) : Statement (.frameMpegStdB11S2 prot pad low) :=
  fun _ _ => mpegStd_word prot 11 2 pad low
theorem frameMpegStdB12S0 (prot : BitVec 1) (pad : BitVec 1) (low : BitVec 9) : Statement (.frameMpegStdB12S0 prot pad low) :=
  fun _ _ => mpegStd_word prot 12 0 pad low
theorem frameMpegStdB12S1 (prot : BitVec 1) (pad : BitVec 1) (low : BitVec 9) : Statement (.frameMpegStdB12S1 prot pad low) :=
  fun _ _ => mpegStd_word prot 12 1 pad low
theorem frameMpegStdB12S2 (prot : BitVec 1) (pad : BitVec 1) (low : BitVec 9) : Statement (.frameMpegStdB12S2 prot pad low) :=
  fun _ _ => mpegStd_word prot 12 2 pad low
theorem frameMpegStdB13S0 (prot : BitVec 1) (pad : BitVec 1) (low : BitVec 9) : Statement (.frameMpegStdB13S0 prot pad low) :=
  fun _ _ => mpegStd_word prot 13 0 pad low
theorem frameMpegStdB13S1 (prot : BitVec 1) (pad : BitVec 1) (low : BitVec 9) : Statement (.frameMpegStdB13S1 prot pad low) :=
  fun _ _ => mpegStd_word prot 13 1 pad low
theorem frameMpegStdB13S2 (prot : BitVec 1) (pad : BitVec 1) (low : BitVec 9) : Statement (.frameMpegStdB13S2 prot pad low) :=
  fun _ _ => mpegStd_word prot 13 2 pad low
theorem frameMpegStdB14S0 (prot : BitVec 1) (pad : BitVec 1) (low : BitVec 9) : Statement (.frameMpegStdB14S0 prot pad low) :=
  fun _ _ => mpegStd_word prot 14 0 pad low
theorem frameMpegStdB14S1 (prot : BitVec 1) (pad : BitVec 1) (low : BitVec 9) : Statement (.frameMpegStdB14S1 prot pad low) :=
  fun _ _ => mpegStd_word prot 14 1 pad low
theorem frameMpegStdB14S2 (prot : BitVec 1) (pad : BitVec 1) (low : BitVec 9) : Statement (.frameMpegStdB14S2 prot pad low) :=
  fun _ _ => mpegStd_word prot 14 2 pad low
theorem frameDocTableB1S0 (pad : BitVec 1) (low : BitVec 10) : Statement (.frameDocTableB1S0 pad low) :=
  fun _ _ => docTable_word 1 0 pad low
theorem frameDocTableB1S1 (pad : BitVec 1) (low : BitVec 10) : Statement (.frameDocTableB1S1 pad low) :=
  fun _ _ => docTable_word 1 1 pad low
theorem frameDocTableB1S2 (pad : BitVec 1) (low : BitVec 10) : Statement (.frameDocTableB1S2 pad low) :=
  fun _ _ => docTable_word 1 2 pad low
theorem frameDocTableB2S0 (pad : BitVec 1) (low : BitVec 10) : Statement (.frameDocTableB2S0 pad low) :=
  fun _ _ => docTable_word 2 0 pad low
theorem frameDocTableB2S1 (pad : BitVec 1) (low : BitVec 10) : Statement (.frameDocTableB2S1 pad low) :=
  fun _ _ => docTable_word 2 1 pad low
theorem frameDocTableB2S2 (pad : BitVec 1) (low : BitVec 10) : Statement (.frameDocTableB2S2 pad low) :=
  fun _ _ => docTable_word 2 2 pad low
theorem frameDocTableB3S0 (pad : BitVec 1) (low : BitVec 10) : Statement (.frameDocTableB3S0 pad low) :=
  fun _ _ => docTable_word 3 0 pad low
theorem frameDocTableB3S1 (pad : BitVec 1) (low : BitVec 10) : Statement (.frameDocTableB3S1 pad low) :=
  fun _ _ => docTable_word 3 1 pad low
theorem frameDocTableB3S2 (pad : BitVec 1) (low : BitVec 10) : Statement (.frameDocTableB3S2 pad low) :=
  fun _ _ => docTable_word 3 2 pad low
theorem frameDocTableB4S0 (pad : BitVec 1) (low : BitVec 10) : Statement (.frameDocTableB4S0 pad low) :=
  fun _ _ => docTable_word 4 0 pad low
theorem frameDocTableB4S1 (pad : BitVec 1) (low : BitVec 10) : Statement (.frameDocTableB4S1 pad low) :=
  fun _ _ => docTable_word 4 1 pad low
theorem frameDocTableB4S2 (pad : BitVec 1) (low : BitVec 10) : Statement (.frameDocTableB4S2 pad low) :=
  fun _ _ => docTable_word 4 2 pad low
theorem frameDocTableB5S0 (pad : BitVec 1) (low : BitVec 10) : Statement (.frameDocTableB5S0 pad low) :=
  fun _ _ => docTable_word 5 0 pad low
theorem frameDocTableB5S1 (pad : BitVec 1) (low : BitVec 10) : Statement (.frameDocTableB5S1 pad low) :=
  fun _ _ => docTable_word 5 1 pad low
theorem frameDocTableB5S2 (pad : BitVec 1) (low : BitVec 10) : Statement (.frameDocTableB5S2 pad low) :=
  fun _ _ => docTable_word 5 2 pad low
theorem frameDocTableB6S0 (pad : BitVec 1) (low : BitVec 10) : Statement (.frameDocTableB6S0 pad low) :=
  fun _ _ => docTable_word 6 0 pad low
theorem frameDocTableB6S1 (pad : BitVec 1) (low : BitVec 10) : Statement (.frameDocTableB6S1 pad low) :=
  fun _ _ => docTable_word 6 1 pad low
theorem frameDocTableB6S2 (pad : BitVec 1) (low : BitVec 10) : Statement (.frameDocTableB6S2 pad low) :=
  fun _ _ => docTable_word 6 2 pad low
theorem frameDocTableB7S0 (pad : BitVec 1) (low : BitVec 10) : Statement (.frameDocTableB7S0 pad low) :=
  fun _ _ => docTable_word 7 0 pad low
theorem frameDocTableB7S1 (pad : BitVec 1) (low : BitVec 10) : Statement (.frameDocTableB7S1 pad low) :=
  fun _ _ => docTable_word 7 1 pad low
theorem frameDocTableB7S2 (pad : BitVec 1) (low : BitVec 10) : Statement (.frameDocTableB7S2 pad low) :=
  fun _ _ => docTable_word 7 2 pad low
theorem frameDocTableB8S0 (pad : BitVec 1) (low : BitVec 10) : Statement (.frameDocTableB8S0 pad low) :=
  fun _ _ => docTable_word 8 0 pad low
theorem frameDocTableB8S1 (pad : BitVec 1) (low : BitVec 10) : Statement (.frameDocTableB8S1 pad low) :=
  fun _ _ => docTable_word 8 1 pad low
theorem frameDocTableB8S2 (pad : BitVec 1) (low : BitVec 10) : Statement (.frameDocTableB8S2 pad low) :=
  fun _ _ => docTable_word 8 2 pad low
theorem frameDocTableB9S0 (pad : BitVec 1) (low : BitVec 10) : Statement (.frameDocTableB9S0 pad low) :=
  fun _ _ => docTable_word 9 0 pad low
theorem frameDocTableB9S1 (pad : BitVec 1) (low : BitVec 10) : Statement (.frameDocTableB9S1 pad low) :=
  fun _ _ => docTable_word 9 1 pad low
theorem frameDocTableB9S2 (pad : BitVec 1) (low : BitVec 10) : Statement (.frameDocTableB9S2 pad low) :=
  fun _ _ => docTable_word 9 2 pad low
theorem frameDocTableB10S0 (pad : BitVec 1) (low : BitVec 10) : Statement (.frameDocTableB10S0 pad low) :=
  fun _ _ => docTable_word 10 0 pad low
theorem frameDocTableB10S1 (pad : BitVec 1) (low : BitVec 10) : Statement (.frameDocTableB10S1 pad low) :=
  fun _ _ => docTable_word 10 1 pad low
theorem frameDocTableB10S2 (pad : BitVec 1) (low : BitVec 10) : Statement (.frameDocTableB10S2 pad low) :=
  fun _ _ => docTable_word 10 2 pad low
theorem frameDocTableB11S0 (pad : BitVec 1) (low : BitVec 10) : Statement (.frameDocTableB11S0 pad low) :=
  fun _ _ => docTable_word 11 0 pad low
theorem frameDocTableB11S1 (pad : BitVec 1) (low : BitVec 10) : Statement (.frameDocTableB11S1 pad low) :=
  fun _ _ => docTable_word 11 1 pad low
theorem frameDocTableB11S2 (pad : BitVec 1) (low : BitVec 10) : Statement (.frameDocTableB11S2 pad low) :=
  fun _ _ => docTable_word 11 2 pad low
theorem frameDocTableB12S0 (pad : BitVec 1) (low : BitVec 10) : Statement (.frameDocTableB12S0 pad low) :=
  fun _ _ => docTable_word 12 0 pad low
theorem frameDocTableB12S1 (pad : BitVec 1) (low : BitVec 10) : Statement (.frameDocTableB12S1 pad low) :=
  fun _ _ => docTable_word 12 1 pad low
theorem frameDocTableB12S2 (pad : BitVec 1) (low : BitVec 10) : Statement (.frameDocTableB12S2 pad low) :=
  fun _ _ => docTable_word 12 2 pad low
theorem frameDocTableB13S0 (pad : BitVec 1) (low : BitVec 10) : Statement (.frameDocTableB13S0 pad low) :=
  fun _ _ => docTable_word 13 0 pad low
theorem frameDocTableB13S1 (pad : BitVec 1) (low : BitVec 10) : Statement (.frameDocTableB13S1 pad low) :=
  fun _ _ => docTable_word 13 1 pad low
theorem frameDocTableB13S2 (pad : BitVec 1) (low : BitVec 10) : Statement (.frameDocTableB13S2 pad low) :=
  fun _ _ => docTable_word 13 2 pad low
theorem frameDocTableB14S0 (pad : BitVec 1) (low : BitVec 10) : Statement (.frameDocTableB14S0 pad low) :=
  fun _ _ => docTable_word 14 0 pad low
theorem frameDocTableB14S1 (pad : BitVec 1) (low : BitVec 10) : Statement (.frameDocTableB14S1 pad low) :=
  fun _ _ => docTable_word 14 1 pad low
theorem frameDocTableB14S2 (pad : BitVec 1) (low : BitVec 10) : Statement (.frameDocTableB14S2 pad low) :=
  fun _ _ => docTable_word 14 2 pad low
theorem reject (w : Word) : Statement (.reject w) :=
  fun _ _ => BitVec.and_zero
theorem rejSync (sync : BitVec 11) (rest : BitVec 21) : Statement (.rejSync sync rest) := by
  intro c h heq
  have h1 := rest.isLt; have h2 := sync.isLt
  have hne : sync.toNat ≠ 0x7FF := by
    intro he
    exact absurd (eq_ofNat_of_toNat he) (by simpa [Instr.WellFormed] using h)
  have e := congrArg BitVec.toNat heq
  have a := and_field_toNat (sync ++ rest : BitVec (11 + 21)) 21 11 (by omega)
  have b := append_toNat sync rest
  rw [show ((sync ++ rest : BitVec (11 + 21)) &&& 0xFFE00000 : Word).toNat = _ from a] at e
  rw [b] at e
  simp at e
  omega
theorem rejVersion0 (rest : BitVec 19) : Statement (.rejVersion0 rest) := by
  intro c _
  have h1 := rest.isLt
  apply BitVec.eq_of_toNat_eq
  refine (and_field_toNat ((0x7FF#11 ++ 0#2) ++ rest : BitVec (13 + 19)) 19 13 (by omega)).trans ?_
  rw [append_toNat]
  simp
  omega
theorem rejVersion1 (rest : BitVec 19) : Statement (.rejVersion1 rest) := by
  intro c _
  have h1 := rest.isLt
  apply BitVec.eq_of_toNat_eq
  refine (and_field_toNat ((0x7FF#11 ++ 1#2) ++ rest : BitVec (13 + 19)) 19 13 (by omega)).trans ?_
  rw [append_toNat]
  simp
  omega
theorem rejVersion2 (rest : BitVec 19) : Statement (.rejVersion2 rest) := by
  intro c _
  have h1 := rest.isLt
  apply BitVec.eq_of_toNat_eq
  refine (and_field_toNat ((0x7FF#11 ++ 2#2) ++ rest : BitVec (13 + 19)) 19 13 (by omega)).trans ?_
  rw [append_toNat]
  simp
  omega
theorem rejLayer0 (rest : BitVec 17) : Statement (.rejLayer0 rest) := by
  intro c _
  have h1 := rest.isLt
  apply BitVec.eq_of_toNat_eq
  refine (and_field_toNat ((0x7FF#11 ++ 3#2 ++ 0#2) ++ rest : BitVec (15 + 17)) 17 15 (by omega)).trans ?_
  rw [append_toNat]
  simp
  omega
theorem rejLayer2 (rest : BitVec 17) : Statement (.rejLayer2 rest) := by
  intro c _
  have h1 := rest.isLt
  apply BitVec.eq_of_toNat_eq
  refine (and_field_toNat ((0x7FF#11 ++ 3#2 ++ 2#2) ++ rest : BitVec (15 + 17)) 17 15 (by omega)).trans ?_
  rw [append_toNat]
  simp
  omega
theorem rejLayer3 (rest : BitVec 17) : Statement (.rejLayer3 rest) := by
  intro c _
  have h1 := rest.isLt
  apply BitVec.eq_of_toNat_eq
  refine (and_field_toNat ((0x7FF#11 ++ 3#2 ++ 3#2) ++ rest : BitVec (15 + 17)) 17 15 (by omega)).trans ?_
  rw [append_toNat]
  simp
  omega
theorem rejFreeMpegStd (prot : BitVec 1) (rest : BitVec 12) : Statement (.rejFreeMpegStd prot rest) := by
  intro c _
  have h1 := rest.isLt; have h2 := prot.isLt
  apply BitVec.eq_of_toNat_eq
  refine (and_two_fields_toNat ((0x7FF#11 ++ 3#2 ++ 1#2 ++ prot ++ 0#4) ++ rest : BitVec (20 + 12)) 17 15 12 4
    (by omega) (by omega)).trans ?_
  simp only [append_toNat]
  simp
  omega
theorem rejBr15MpegStd (prot : BitVec 1) (rest : BitVec 12) : Statement (.rejBr15MpegStd prot rest) := by
  intro c _
  have h1 := rest.isLt; have h2 := prot.isLt
  apply BitVec.eq_of_toNat_eq
  refine (and_two_fields_toNat ((0x7FF#11 ++ 3#2 ++ 1#2 ++ prot ++ 15#4) ++ rest : BitVec (20 + 12)) 17 15 12 4
    (by omega) (by omega)).trans ?_
  simp only [append_toNat]
  simp
  omega
theorem rejSr3MpegStd (prot : BitVec 1) (bri : BitVec 4) (rest : BitVec 10) : Statement (.rejSr3MpegStd prot bri rest) := by
  intro c _
  have h1 := rest.isLt; have h2 := prot.isLt; have h3 := bri.isLt
  have e : ((0x7FF#11 ++ 3#2 ++ 1#2 ++ prot ++ bri ++ 3#2) ++ rest : BitVec (22 + 10)).toNat =
      0xFFFA0C00 + prot.toNat * 2 ^ 16 + bri.toNat * 2 ^ 12 + rest.toNat := by
    simp only [append_toNat]
    simp
    omega
  apply BitVec.eq_of_toNat_eq
  refine (and_two_fields_toNat _ 17 15 10 2 (by omega) (by omega)).trans ?_
  rw [e]
  change _ = 0xFFFA0C00
  omega
theorem rejFreeDocTable (rest : BitVec 13) : Statement (.rejFreeDocTable rest) := by
  intro c _
  have h1 := rest.isLt
  apply BitVec.eq_of_toNat_eq
  refine (and_field_toNat ((0x7FF#11 ++ 3#2 ++ 1#2 ++ 0#4) ++ rest : BitVec (19 + 13)) 13 19
    (by omega)).trans ?_
  simp only [append_toNat]
  simp
  omega
theorem rejBr15DocTable (rest : BitVec 13) : Statement (.rejBr15DocTable rest) := by
  intro c _
  have h1 := rest.isLt
  apply BitVec.eq_of_toNat_eq
  refine (and_field_toNat ((0x7FF#11 ++ 3#2 ++ 1#2 ++ 15#4) ++ rest : BitVec (19 + 13)) 13 19
    (by omega)).trans ?_
  simp only [append_toNat]
  simp
  omega
theorem rejSr3DocTable (bri : BitVec 4) (rest : BitVec 11) : Statement (.rejSr3DocTable bri rest) := by
  intro c _
  have h1 := rest.isLt; have h3 := bri.isLt
  have e : ((0x7FF#11 ++ 3#2 ++ 1#2 ++ bri ++ 3#2) ++ rest : BitVec (21 + 11)).toNat =
      0xFFFA1800 + bri.toNat * 2 ^ 13 + rest.toNat := by
    simp only [append_toNat]
    simp
    omega
  apply BitVec.eq_of_toNat_eq
  refine (and_two_fields_toNat _ 17 15 11 2 (by omega) (by omega)).trans ?_
  rw [e]
  change _ = 0xFFFA1800
  omega
theorem id3v2Mark (b6 : Byte) (b7 : Byte) (b8 : Byte) (b9 : Byte) : Statement (.id3v2Mark b6 b7 b8 b9) :=
  fun _ _ => ⟨rfl, rfl⟩
theorem id3v1Mark : Statement (.id3v1Mark) :=
  fun _ _ => ⟨rfl, rfl⟩
theorem rdCtrl : Statement (.rdCtrl) := by
  intro c _
  simp [Matches, row, encode, regAccess, dirBit]
theorem rdStatus : Statement (.rdStatus) := by
  intro c _
  simp [Matches, row, encode, regAccess, dirBit]
theorem rdLen : Statement (.rdLen) := by
  intro c _
  simp [Matches, row, encode, regAccess, dirBit]
theorem rdCount : Statement (.rdCount) := by
  intro c _
  simp [Matches, row, encode, regAccess, dirBit]
theorem rdStartPos : Statement (.rdStartPos) := by
  intro c _
  simp [Matches, row, encode, regAccess, dirBit]
theorem rdEndBound : Statement (.rdEndBound) := by
  intro c _
  simp [Matches, row, encode, regAccess, dirBit]
theorem rdPos : Statement (.rdPos) := by
  intro c _
  simp [Matches, row, encode, regAccess, dirBit]
theorem rdCfg : Statement (.rdCfg) := by
  intro c _
  simp [Matches, row, encode, regAccess, dirBit]
theorem rdBufmax : Statement (.rdBufmax) := by
  intro c _
  simp [Matches, row, encode, regAccess, dirBit]
theorem rdRsvd (off : BitVec 12) : Statement (.rdRsvd off) := by
  intro c _
  refine ⟨rfl, Nat.le_add_right _ _, Nat.add_lt_add_left off.isLt _, ?_⟩
  simp [regAccess, dirBit]
theorem wrCtrl (v : Word) : Statement (.wrCtrl v) := by
  intro c _
  simp [Matches, row, encode, regAccess, dirBit]
theorem wrStatus (v : Word) : Statement (.wrStatus v) := by
  intro c _
  simp [Matches, row, encode, regAccess, dirBit]
theorem wrLen (v : Word) : Statement (.wrLen v) := by
  intro c _
  simp [Matches, row, encode, regAccess, dirBit]
theorem wrRoCount (v : Word) : Statement (.wrRoCount v) := by
  intro c _
  simp [Matches, row, encode, regAccess, dirBit]
theorem wrRoStartPos (v : Word) : Statement (.wrRoStartPos v) := by
  intro c _
  simp [Matches, row, encode, regAccess, dirBit]
theorem wrRoEndBound (v : Word) : Statement (.wrRoEndBound v) := by
  intro c _
  simp [Matches, row, encode, regAccess, dirBit]
theorem wrRoPos (v : Word) : Statement (.wrRoPos v) := by
  intro c _
  simp [Matches, row, encode, regAccess, dirBit]
theorem wrRoCfg (v : Word) : Statement (.wrRoCfg v) := by
  intro c _
  simp [Matches, row, encode, regAccess, dirBit]
theorem wrRoBufmax (v : Word) : Statement (.wrRoBufmax v) := by
  intro c _
  simp [Matches, row, encode, regAccess, dirBit]
theorem wrRsvd (off : BitVec 12) (v : Word) : Statement (.wrRsvd off v) := by
  intro c _
  refine ⟨rfl, Nat.le_add_right _ _, Nat.add_lt_add_left off.isLt _, ?_⟩
  simp [regAccess, dirBit]
theorem bufWr (off : Word) (b : Byte) : Statement (.bufWr off b) :=
  fun _ _ => ⟨rfl, Nat.le_add_right _ _, rfl⟩
theorem bufRd (off : Word) : Statement (.bufRd off) :=
  fun _ _ => ⟨rfl, Nat.le_add_right _ _, rfl⟩
theorem badReg (dir : Dir) (off : BitVec 12) (width : Nat) (v : Word) : Statement (.badReg dir off width v) := by
  intro c h
  refine ⟨Nat.le_add_right _ _, Nat.add_lt_add_left off.isLt _, ?_⟩
  simpa [Instr.WellFormed] using h

end Laws.TableRow

end Sys2Proof
end

