-- ==== Sys2Proof/Laws/Step.lean ====
section
/-! SUPPORT. Everything a step can do, said once: the turns of the scanner, the host accesses, and reset. Later
proofs take the cases from here and do not unfold `step`. -/

namespace Sys2Proof.Machine

/-- What the scanner's turn makes of a state (R30). -/
inductive ScannerStep (s : State) : State → Prop
  | idle : s.fsm = .idle → ScannerStep s s
  | start (n : Nat) : s.fsm = .leadTag → n ≤ 268435465 → ScannerStep s (setStart n s)
  | bound (n : Nat) : s.fsm = .trailTag → n ≤ s.len.toNat → ScannerStep s (setEnd n s)
  | guardFails : s.fsm = .scan → s.endBound.toNat ≤ s.pos.toNat + 4 → ScannerStep s (endScan s)
  | bounds : s.fsm = .scan → s.pos.toNat + 4 < s.endBound.toNat → s.len.toNat ≤ s.pos.toNat + 3 →
      ScannerStep s (boundsPath s)
  | candidate (w : Word) : s.fsm = .scan → s.pos.toNat + 4 < s.endBound.toNat →
      s.pos.toNat + 3 < s.len.toNat → (hdrFields s.cfg.hdrLayout w).valid = true →
      ScannerStep s (frameStep (hdrFields s.cfg.hdrLayout w).bri (hdrFields s.cfg.hdrLayout w).sri
        (hdrFields s.cfg.hdrLayout w).pad (latchHdr w s))
  | noCandidate (w : Word) : s.fsm = .scan → s.pos.toNat + 4 < s.endBound.toNat →
      s.pos.toNat + 3 < s.len.toNat → (hdrFields s.cfg.hdrLayout w).valid = false →
      ScannerStep s (rejectStep (latchHdr w s))
  | finish : s.fsm = .finish → ScannerStep s (finishScan s)

/-- What a host instruction makes of a state (R101 to R109). -/
inductive HostStep (s : State) : Instr → State → Prop
  | read (i : Instr) (r : ReadResult) : HostStep s i (returnRead r s)
  | ctrl (v : Word) : startBit v = false → HostStep s (.wrCtrl v) (setIe v s)
  | start (v : Word) : startBit v = true → HostStep s (.wrCtrl v) (start (setIe v s))
  | status (v : Word) : HostStep s (.wrStatus v) (acknowledge v s)
  | len (v : Word) : s.fsm = .idle → HostStep s (.wrLen v) (setLen v s)
  | lenHazard (v : Word) : s.fsm ≠ .idle → HostStep s (.wrLen v) (raiseHazard .len s)
  | ignored (i : Instr) : HostStep s i s
  | store (off : Word) (b : Byte) : s.fsm = .idle → off.toNat < s.cfg.bufMax.toNat →
      HostStep s (.bufWr off b) (storeByte off.toNat b s)
  | bufHazard (off : Word) (b : Byte) : s.fsm ≠ .idle →
      HostStep s (.bufWr off b) (raiseHazard .buf s)

/-- The next state of a `next` answer. -/
theorem next_inj {s t : State} (h : (Host.Outcome.next s : Result) = .next t) : s = t := by
  cases h
  rfl

/-- What any instruction makes of a state. -/
inductive InstrStep (s : State) (i : Instr) : State → Prop
  | frame (bri : BitVec 4) (sri : BitVec 2) (pad : BitVec 1) : InstrStep s i (frameStep bri sri pad s)
  | reject : InstrStep s i (rejectStep s)
  | start (n : Nat) : n ≤ 268435465 → InstrStep s i (setStart n s)
  | bound (n : Nat) : n ≤ s.len.toNat → InstrStep s i (setEnd n s)
  | host (t : State) : HostStep s i t → InstrStep s i t

theorem execId3v1Mark_cases {s t : State} (h : execId3v1Mark s = .next t) :
    InstrStep s .id3v1Mark t := by
  unfold execId3v1Mark at h
  split at h
  · exact next_inj h ▸ .bound _ (Nat.sub_le _ _)
  · exact next_inj h ▸ .bound _ (Nat.le_refl _)

theorem execId3v2Mark_cases {s t : State} {b6 b7 b8 b9 : Byte}
    (h : execId3v2Mark b6 b7 b8 b9 s = .next t) : InstrStep s (.id3v2Mark b6 b7 b8 b9) t := by
  have := synchsafe_lt b6 b7 b8 b9
  unfold execId3v2Mark at h
  split at h
  · exact next_inj h ▸ .start _ (by omega)
  · exact next_inj h ▸ .start _ (by omega)

theorem execWrCtrl_cases {s t : State} {v : Word} (h : execWrCtrl v s = .next t) :
    InstrStep s (.wrCtrl v) t := by
  unfold execWrCtrl at h
  split at h
  · next hv => exact next_inj h ▸ .host _ (.start v hv)
  · next hv => exact next_inj h ▸ .host _ (.ctrl v (Bool.not_eq_true _ ▸ hv))

theorem execWrLen_cases {s t : State} {v : Word} (h : execWrLen v s = .next t) :
    InstrStep s (.wrLen v) t := by
  unfold execWrLen at h
  split at h
  · next hb => exact next_inj h ▸ .host _ (.lenHazard v (State.busy_eq_true.1 hb))
  · next hb =>
    exact next_inj h ▸ .host _ (.len v (Decidable.not_not.1 fun hf => hb (State.busy_eq_true.2 hf)))

theorem execBufWr_cases {s t : State} {off : Word} {b : Byte} (h : execBufWr off b s = .next t) :
    InstrStep s (.bufWr off b) t := by
  unfold execBufWr at h
  split at h
  · next ho =>
    split at h
    · next hb => exact next_inj h ▸ .host _ (.bufHazard off b (State.busy_eq_true.1 hb))
    · next hb =>
      exact next_inj h ▸
        .host _ (.store off b (Decidable.not_not.1 fun hf => hb (State.busy_eq_true.2 hf)) ho)
  · cases h

theorem execBufRd_cases {s t : State} {off : Word} (h : execBufRd off s = .next t) :
    InstrStep s (.bufRd off) t := by
  unfold execBufRd at h
  split at h
  · exact next_inj h ▸ .host _ (.read _ _)
  · cases h

theorem execBadReg_cases {s t : State} {d : Dir} {off : BitVec 12} {width : Nat} {v : Word}
    (h : execBadReg d off width v s = .next t) : InstrStep s (.badReg d off width v) t := by
  unfold execBadReg at h
  split at h
  · exact next_inj h ▸ .host _ (.read _ _)
  · exact next_inj h ▸ .host _ (.ignored _)

/-- Everything an instruction with a next state can do, for each of the 123 instructions. -/
theorem exec_cases {i : Instr} {s t : State} (h : exec i s = .next t) : InstrStep s i t := by
  cases i
  case id3v2Mark => exact execId3v2Mark_cases h
  case id3v1Mark => exact execId3v1Mark_cases h
  case wrCtrl => exact execWrCtrl_cases h
  case wrLen => exact execWrLen_cases h
  case bufWr => exact execBufWr_cases h
  case bufRd => exact execBufRd_cases h
  case badReg => exact execBadReg_cases h
  case wrStatus v => exact next_inj h ▸ .host _ (.status v)
  all_goals
    first
    | exact next_inj h ▸ .frame _ _ _
    | exact next_inj h ▸ .reject
    | exact next_inj h ▸ .host _ (.ignored _)
    | exact next_inj h ▸ .host _ (.read _ _)

/-- A decoded host access runs a host instruction, which gives a next state. -/
theorem decodeAccess_cases {c : Config} {a : BusAccess} {i : Instr} (h : decodeAccess c a = .ok i)
    {s : State} (hc : s.cfg = c) : ∃ t, exec i s = .next t ∧ HostStep s i t := by
  simp only [decodeAccess] at h
  split at h
  · simp only [Except.ok.injEq] at h
    subst h
    simp only [decodeReg]
    split
    · cases a.dir
      · exact ⟨_, rfl, .read _ _⟩
      · exact ⟨_, rfl, .ignored _⟩
    · split
      · simp only [decodeRegRead]
        split <;> exact ⟨_, rfl, .read _ _⟩
      · simp only [decodeRegWrite]
        split
        · refine ⟨_, rfl, ?_⟩
          cases hb : startBit a.data
          · simpa [hb] using HostStep.ctrl (s := s) a.data hb
          · simpa [hb] using HostStep.start (s := s) a.data hb
        · exact ⟨_, rfl, .status _⟩
        · refine ⟨_, rfl, ?_⟩
          by_cases hf : s.fsm = .idle
          · simpa [State.busy, hf] using HostStep.len (s := s) a.data hf
          · simpa [State.busy, hf] using HostStep.lenHazard (s := s) a.data hf
        all_goals exact ⟨_, rfl, .ignored _⟩
  · split at h
    · next hb =>
      have hoff : (BitVec.ofNat 32 (a.addr - c.bufBase)).toNat < s.cfg.bufMax.toNat := by
        have := c.bufMax.isLt
        simp only [BitVec.toNat_ofNat, hc]
        omega
      simp only [decodeBuf] at h
      split at h
      · split at h
        · simp only [Except.ok.injEq] at h
          subst h
          exact ⟨_, if_pos hoff, .read _ _⟩
        · simp only [Except.ok.injEq] at h
          subst h
          refine ⟨_, if_pos hoff, ?_⟩
          by_cases hf : s.fsm = .idle
          · simpa only [State.busy, hf, bne_self_eq_false, Bool.false_eq_true, if_false] using
              HostStep.store (s := s) _ (a.data.setWidth 8) hf hoff
          · simpa [State.busy, hf] using
              HostStep.bufHazard (s := s) (BitVec.ofNat 32 (a.addr - c.bufBase)) (a.data.setWidth 8) hf
      · cases h
    · cases h

/-- The scanner's turn, case by case. -/
theorem scannerTurn_cases {s t : State}
    (h : runTurn (scannerTurn s) = .next t) : ScannerStep s t := by
  unfold scannerTurn at h
  split at h
  · next hf => exact next_inj h ▸ .idle hf
  · next hf =>
    unfold leadTagTurn at h
    split at h
    · next hl =>
      split at h
      · cases h
      · split at h
        · split at h
          · cases h
          · next b6 b7 b8 b9 _ =>
            simp only [runTurn, exec, execId3v2Mark, hl, if_true] at h
            have := synchsafe_lt b6 b7 b8 b9
            exact next_inj h ▸ .start _ hf (by omega)
        · exact next_inj h ▸ .start _ hf (by omega)
    · exact next_inj h ▸ .start _ hf (by omega)
  · next hf =>
    unfold trailTagTurn at h
    split at h
    · next hl =>
      split at h
      · cases h
      · split at h
        · simp only [runTurn, exec, execId3v1Mark, hl, if_true] at h
          exact next_inj h ▸ .bound _ hf (Nat.sub_le _ _)
        · exact next_inj h ▸ .bound _ hf (Nat.le_refl _)
    · exact next_inj h ▸ .bound _ hf (Nat.le_refl _)
  · next hf =>
    unfold scanTurn at h
    split at h
    · next hg =>
      rw [State.guard_eq_true] at hg
      split at h
      · next ho =>
        rw [State.outOfBounds_eq_true] at ho
        exact next_inj h ▸ .bounds hf hg ho
      · next ho =>
        rw [State.outOfBounds_eq_true, Nat.not_le] at ho
        split at h
        · cases h
        · next w _ =>
          cases hv : (hdrFields s.cfg.hdrLayout w).valid
          · have := (decodeHdr_invalid hv).meaning (latchHdr w s)
            rw [runTurn, this] at h
            exact next_inj h ▸ .noCandidate w hf hg ho hv
          · have := (decodeHdr_valid hv).2.2.2.1 (latchHdr w s)
            rw [runTurn, this] at h
            exact next_inj h ▸ .candidate w hf hg ho hv
    · next hg =>
      rw [State.guard_eq_true, Nat.not_lt] at hg
      exact next_inj h ▸ .guardFails hf hg
  · next hf => exact next_inj h ▸ .finish hf

/-- Everything a step with a next state can do. -/
theorem step_cases {s t : State} (h : step s = .next t) :
    ((s.inputs = [] ∨ ∃ rest, s.inputs = .scannerTurn :: rest) ∧
      ScannerStep (beginTurn s.inputs.tail s) t) ∨
    (∃ a rest, s.inputs = .access a :: rest ∧ decodeAccess s.cfg a = .error .outsideWindows ∧
      t = beginTurn rest s) ∨
    (∃ a rest i, s.inputs = .access a :: rest ∧ decodeAccess s.cfg a = .ok i ∧
      exec i (beginTurn rest s) = .next t ∧ HostStep (beginTurn rest s) i t) ∨
    (∃ rest, s.inputs = .rst :: rest ∧ t = assertRst (beginTurn rest s)) ∨
    (∃ rest, s.inputs = .powerUp :: rest ∧ t = powerUp (beginTurn rest s)) := by
  unfold step turn at h
  split at h
  · next hi => exact .inl ⟨.inl hi, by rw [hi]; exact scannerTurn_cases h⟩
  · next rest hi => exact .inl ⟨.inr ⟨rest, hi⟩, by rw [hi]; exact scannerTurn_cases h⟩
  · next a rest hi =>
    simp only [accessTurn, beginTurn_cfg] at h
    cases hd : decodeAccess s.cfg a with
    | ok i =>
      rw [hd] at h
      obtain ⟨u, hu, hs⟩ := decodeAccess_cases hd (s := beginTurn rest s) rfl
      obtain rfl := next_inj (hu.symm.trans h)
      exact .inr (.inr (.inl ⟨a, rest, i, hi, hd, hu, hs⟩))
    | error r =>
      rw [hd] at h
      cases r with
      | outsideWindows => exact .inr (.inl ⟨a, rest, hi, hd, (next_inj h).symm⟩)
      | bufAccessNotByte width => cases h
  · next rest hi => exact .inr (.inr (.inr (.inl ⟨rest, hi, (next_inj h).symm⟩)))
  · next rest hi => exact .inr (.inr (.inr (.inr ⟨rest, hi, (next_inj h).symm⟩)))

/-- The scanner moves on its turn and when no outside event is left. -/
theorem step_scanner {s : State} (h : s.inputs = [] ∨ ∃ rest, s.inputs = .scannerTurn :: rest) :
    step s = runTurn (scannerTurn (beginTurn s.inputs.tail s)) := by
  rcases h with h | ⟨rest, h⟩ <;> simp [step, turn, h]

/-- A decoded host access is run on the state with the access taken. -/
theorem step_access {s : State} {a : BusAccess} {rest : List Input} {i : Instr}
    (h : s.inputs = .access a :: rest) (hd : decodeAccess s.cfg a = .ok i) :
    step s = exec i (beginTurn rest s) := by
  simp [step, turn, h, accessTurn, hd, runTurn]

/-- A run of one step more, for any machine. -/
theorem core_run_succ (M : Host.Core) {n : Nat} {s t : M.State} (h : M.step s = .next t) :
    M.run (n + 1) s = M.run n t := by
  simp only [Host.Core.run, h]

/-- A run of one step more. -/
theorem run_succ {n : Nat} {s t : State} (h : step s = .next t) :
    Host.Core.run Sys2Proof.core (n + 1) s = Host.Core.run Sys2Proof.core n t :=
  core_run_succ Sys2Proof.core h

end Sys2Proof.Machine
end

