-- ==== Sys2Proof/Tests/Slice0.lean ====
section
/-! SUPPORT. Own tests: ill-formed terms that WellFormed refuses, words and accesses written out from
spec/30_encoding.md, single steps whose expected results come from spec/95_test_vectors.md and from the rules'
own examples, and a witness for the hypotheses of every obligation. -/

namespace Sys2Proof.Tests

open Sys2Proof.Machine Sys2Proof.Claims

/-! ## WellFormed refuses -/

/-- The parameters of this hardware. -/
def std : Config := Config.hardware

/-- The same with the DOC_TABLE layout (R6). -/
def doc : Config := { Config.hardware with hdrLayout := .docTable }

theorem test_wf_layout_of_frame_rows :
    (Instr.frameMpegStdB5S1 1 0 0).WellFormed doc = false ∧
      (Instr.frameDocTableB5S1 0 0).WellFormed std = false := by decide

theorem test_wf_layout_of_reject_rows :
    (Instr.rejFreeMpegStd 1 0).WellFormed doc = false ∧
      (Instr.rejBr15MpegStd 1 0).WellFormed doc = false ∧
      (Instr.rejSr3MpegStd 1 5 0).WellFormed doc = false ∧
      (Instr.rejFreeDocTable 0).WellFormed std = false ∧
      (Instr.rejBr15DocTable 0).WellFormed std = false ∧
      (Instr.rejSr3DocTable 5 0).WellFormed std = false := by decide

theorem test_wf_reject_of_a_frame :
    (Instr.reject 0xFFFB5400).WellFormed std = false ∧
      (Instr.reject 0xFFFAA800).WellFormed doc = false := by decide

theorem test_wf_sync_of_rejSync : (Instr.rejSync 0x7FF 0).WellFormed std = false := by decide

theorem test_wf_bitrate_of_rejSr3 :
    (Instr.rejSr3MpegStd 1 0 0).WellFormed std = false ∧
      (Instr.rejSr3MpegStd 1 15 0).WellFormed std = false ∧
      (Instr.rejSr3DocTable 0 0).WellFormed doc = false ∧
      (Instr.rejSr3DocTable 15 0).WellFormed doc = false := by decide

theorem test_wf_reserved_offset :
    (Instr.rdRsvd 0x20).WellFormed std = false ∧ (Instr.rdRsvd 0x26).WellFormed std = false ∧
      (Instr.wrRsvd 0x20 0).WellFormed std = false ∧ (Instr.wrRsvd 0x25 0).WellFormed std = false := by
  decide

theorem test_wf_buffer_offset :
    (Instr.bufWr 0x100000 0).WellFormed std = false ∧
      (Instr.bufRd 0x100000).WellFormed std = false ∧ (Instr.bufRd 0xFFFFF).WellFormed std = true := by
  decide

theorem test_wf_badReg_of_an_aligned_word : (Instr.badReg .read 0x1C 32 0).WellFormed std = false := by
  decide

/-! ## Decoding: the words are put together from the fields of R72 and R73 -/

def wordsMpegStd1 : List (Word × Instr) :=
  [(0xFFFB1225, .frameMpegStdB1S0 1 1 0x25),
   (0xFFFA168A, .frameMpegStdB1S1 0 1 0x8A),
   (0xFFFB1AEF, .frameMpegStdB1S2 1 1 0xEF),
   (0xFFFA204A, .frameMpegStdB2S0 0 0 0x4A),
   (0xFFFB24AF, .frameMpegStdB2S1 1 0 0xAF),
   (0xFFFA2914, .frameMpegStdB2S2 0 0 0x114),
   (0xFFFB326F, .frameMpegStdB3S0 1 1 0x6F),
   (0xFFFA36D4, .frameMpegStdB3S1 0 1 0xD4),
   (0xFFFB3B39, .frameMpegStdB3S2 1 1 0x139),
   (0xFFFA4094, .frameMpegStdB4S0 0 0 0x94),
   (0xFFFB44F9, .frameMpegStdB4S1 1 0 0xF9),
   (0xFFFA495E, .frameMpegStdB4S2 0 0 0x15E),
   (0xFFFB52B9, .frameMpegStdB5S0 1 1 0xB9),
   (0xFFFA571E, .frameMpegStdB5S1 0 1 0x11E)]

def wordsMpegStd2 : List (Word × Instr) :=
  [(0xFFFB5B83, .frameMpegStdB5S2 1 1 0x183),
   (0xFFFA60DE, .frameMpegStdB6S0 0 0 0xDE),
   (0xFFFB6543, .frameMpegStdB6S1 1 0 0x143),
   (0xFFFA69A8, .frameMpegStdB6S2 0 0 0x1A8),
   (0xFFFB7303, .frameMpegStdB7S0 1 1 0x103),
   (0xFFFA7768, .frameMpegStdB7S1 0 1 0x168),
   (0xFFFB7BCD, .frameMpegStdB7S2 1 1 0x1CD),
   (0xFFFA8128, .frameMpegStdB8S0 0 0 0x128),
   (0xFFFB858D, .frameMpegStdB8S1 1 0 0x18D),
   (0xFFFA89F2, .frameMpegStdB8S2 0 0 0x1F2),
   (0xFFFB934D, .frameMpegStdB9S0 1 1 0x14D),
   (0xFFFA97B2, .frameMpegStdB9S1 0 1 0x1B2),
   (0xFFFB9A17, .frameMpegStdB9S2 1 1 0x17),
   (0xFFFAA172, .frameMpegStdB10S0 0 0 0x172)]

def wordsMpegStd3 : List (Word × Instr) :=
  [(0xFFFBA5D7, .frameMpegStdB10S1 1 0 0x1D7),
   (0xFFFAA83C, .frameMpegStdB10S2 0 0 0x3C),
   (0xFFFBB397, .frameMpegStdB11S0 1 1 0x197),
   (0xFFFAB7FC, .frameMpegStdB11S1 0 1 0x1FC),
   (0xFFFBBA61, .frameMpegStdB11S2 1 1 0x61),
   (0xFFFAC1BC, .frameMpegStdB12S0 0 0 0x1BC),
   (0xFFFBC421, .frameMpegStdB12S1 1 0 0x21),
   (0xFFFAC886, .frameMpegStdB12S2 0 0 0x86),
   (0xFFFBD3E1, .frameMpegStdB13S0 1 1 0x1E1),
   (0xFFFAD646, .frameMpegStdB13S1 0 1 0x46),
   (0xFFFBDAAB, .frameMpegStdB13S2 1 1 0xAB),
   (0xFFFAE006, .frameMpegStdB14S0 0 0 0x6),
   (0xFFFBE46B, .frameMpegStdB14S1 1 0 0x6B),
   (0xFFFAE8D0, .frameMpegStdB14S2 0 0 0xD0)]

theorem test_decode_frame_rows_mpegStd :
    ∀ p ∈ wordsMpegStd1 ++ wordsMpegStd2 ++ wordsMpegStd3, decodeHdr .mpegStd p.1 = p.2 := by decide

def wordsDocTable1 : List (Word × Instr) :=
  [(0xFFFA2047, .frameDocTableB1S0 0 0x47),
   (0xFFFA2CA8, .frameDocTableB1S1 1 0xA8),
   (0xFFFA3109, .frameDocTableB1S2 0 0x109),
   (0xFFFA448E, .frameDocTableB2S0 1 0x8E),
   (0xFFFA48EF, .frameDocTableB2S1 0 0xEF),
   (0xFFFA5550, .frameDocTableB2S2 1 0x150),
   (0xFFFA60D5, .frameDocTableB3S0 0 0xD5),
   (0xFFFA6D36, .frameDocTableB3S1 1 0x136),
   (0xFFFA7197, .frameDocTableB3S2 0 0x197),
   (0xFFFA851C, .frameDocTableB4S0 1 0x11C),
   (0xFFFA897D, .frameDocTableB4S1 0 0x17D),
   (0xFFFA95DE, .frameDocTableB4S2 1 0x1DE),
   (0xFFFAA163, .frameDocTableB5S0 0 0x163),
   (0xFFFAADC4, .frameDocTableB5S1 1 0x1C4)]

def wordsDocTable2 : List (Word × Instr) :=
  [(0xFFFAB225, .frameDocTableB5S2 0 0x225),
   (0xFFFAC5AA, .frameDocTableB6S0 1 0x1AA),
   (0xFFFACA0B, .frameDocTableB6S1 0 0x20B),
   (0xFFFAD66C, .frameDocTableB6S2 1 0x26C),
   (0xFFFAE1F1, .frameDocTableB7S0 0 0x1F1),
   (0xFFFAEE52, .frameDocTableB7S1 1 0x252),
   (0xFFFAF2B3, .frameDocTableB7S2 0 0x2B3),
   (0xFFFB0638, .frameDocTableB8S0 1 0x238),
   (0xFFFB0A99, .frameDocTableB8S1 0 0x299),
   (0xFFFB16FA, .frameDocTableB8S2 1 0x2FA),
   (0xFFFB227F, .frameDocTableB9S0 0 0x27F),
   (0xFFFB2EE0, .frameDocTableB9S1 1 0x2E0),
   (0xFFFB3341, .frameDocTableB9S2 0 0x341),
   (0xFFFB46C6, .frameDocTableB10S0 1 0x2C6)]

def wordsDocTable3 : List (Word × Instr) :=
  [(0xFFFB4B27, .frameDocTableB10S1 0 0x327),
   (0xFFFB5788, .frameDocTableB10S2 1 0x388),
   (0xFFFB630D, .frameDocTableB11S0 0 0x30D),
   (0xFFFB6F6E, .frameDocTableB11S1 1 0x36E),
   (0xFFFB73CF, .frameDocTableB11S2 0 0x3CF),
   (0xFFFB8754, .frameDocTableB12S0 1 0x354),
   (0xFFFB8BB5, .frameDocTableB12S1 0 0x3B5),
   (0xFFFB9416, .frameDocTableB12S2 1 0x16),
   (0xFFFBA39B, .frameDocTableB13S0 0 0x39B),
   (0xFFFBAFFC, .frameDocTableB13S1 1 0x3FC),
   (0xFFFBB05D, .frameDocTableB13S2 0 0x5D),
   (0xFFFBC7E2, .frameDocTableB14S0 1 0x3E2),
   (0xFFFBC843, .frameDocTableB14S1 0 0x43),
   (0xFFFBD4A4, .frameDocTableB14S2 1 0xA4)]

theorem test_decode_frame_rows_docTable :
    ∀ p ∈ wordsDocTable1 ++ wordsDocTable2 ++ wordsDocTable3, decodeHdr .docTable p.1 = p.2 := by decide

/-- Rejected words and their sub-case, from R77 and the vectors V-DEC. -/
def wordsReject : List (HdrLayout × Word × Instr) :=
  [(.mpegStd, 0x7FFB5400, .rejSync 0x3FF 0x1B5400),
   (.mpegStd, 0xFFE35400, .rejVersion0 0x35400),
   (.mpegStd, 0xFFEB5400, .rejVersion1 0x35400),
   (.docTable, 0xFFF35400, .rejVersion2 0x35400),
   (.mpegStd, 0xFFF95400, .rejLayer0 0x15400),
   (.docTable, 0xFFFD5400, .rejLayer2 0x15400),
   (.mpegStd, 0xFFFF5400, .rejLayer3 0x15400),
   (.mpegStd, 0xFFFB0400, .rejFreeMpegStd 1 0x400),
   (.mpegStd, 0xFFFBF400, .rejBr15MpegStd 1 0x400),
   (.mpegStd, 0xFFFB5C00, .rejSr3MpegStd 1 5 0),
   (.docTable, 0xFFFA1400, .rejFreeDocTable 0x1400),
   (.docTable, 0xFFFBEA00, .rejBr15DocTable 0xA00),
   (.docTable, 0xFFFB5C00, .rejSr3DocTable 10 0x400)]

theorem test_decode_reject_rows : ∀ p ∈ wordsReject, decodeHdr p.1 p.2.1 = p.2.2 := by decide

/-- The class row REJECT is never what a word decodes to: its words have a named sub-case (log 9). -/
theorem test_decode_zero_word : decodeHdr .mpegStd 0 = .rejSync 0 0 := by decide

/-- V-DEC-01, 03, 04, 15, 17, 23 and 25: class and frame length under both layouts. -/
def vectorsDec : List (Word × Option (Nat × Nat × Nat) × Option (Nat × Nat × Nat)) :=
  [(0xFFFB5400, some (5, 1, 192), some (10, 2, 721)),
   (0xFFFB9064, some (9, 0, 417), some (12, 2, 1008)),
   (0xFFFB0400, none, some (8, 0, 366)),
   (0xFFFA5400, some (5, 1, 192), some (2, 2, 181)),
   (0xFFFAE800, some (14, 2, 1440), some (7, 1, 288)),
   (0xFFFA1400, some (1, 1, 96), none),
   (0xFFFBEA00, some (14, 2, 1441), none)]

/-- Class and frame length of a word. -/
def classAndLength (l : HdrLayout) (w : Word) : Option (Nat × Nat × Nat) :=
  (decodeHdr l w).frameRow.map fun r =>
    (r.2.1, r.2.2, flen (hdrFields l w).bri (hdrFields l w).sri (hdrFields l w).pad)

theorem test_vectors_dec :
    ∀ p ∈ vectorsDec, classAndLength .mpegStd p.1 = p.2.1 ∧ classAndLength .docTable p.1 = p.2.2 := by
  decide

/-- V-TAG-03 and V-TAG-09: the marker is compared byte by byte. -/
theorem test_decode_tags :
    decodeId3v2 [0x49, 0x44, 0x33, 3, 0, 0, 0, 0, 2, 1] = .ok (.id3v2Mark 0 0 2 1) ∧
      decodeId3v2 [0x69, 0x64, 0x33, 3, 0, 0, 0, 0, 2, 1] = .error .notAMark ∧
      decodeId3v1 [0x54, 0x41, 0x47] = .ok .id3v1Mark ∧
      decodeId3v1 [0x54, 0x41, 0x48] = .error .notAMark := by decide

/-- R82 and R83: the accesses of each host row, at the window addresses of `Config.hardware`. -/
def accesses : List (BusAccess × Instr) :=
  [(⟨0x0, .read, 32, 0⟩, .rdCtrl),
   (⟨0x4, .read, 32, 0⟩, .rdStatus),
   (⟨0x8, .read, 32, 0⟩, .rdLen),
   (⟨0xC, .read, 32, 0⟩, .rdCount),
   (⟨0x10, .read, 32, 0⟩, .rdStartPos),
   (⟨0x14, .read, 32, 0⟩, .rdEndBound),
   (⟨0x18, .read, 32, 0⟩, .rdPos),
   (⟨0x1C, .read, 32, 0⟩, .rdCfg),
   (⟨0x20, .read, 32, 0⟩, .rdBufmax),
   (⟨0xFFC, .read, 32, 0⟩, .rdRsvd 0xFFC),
   (⟨0x0, .write, 32, 0x89ABCDEF⟩, .wrCtrl 0x89ABCDEF),
   (⟨0x4, .write, 32, 0x89ABCDEF⟩, .wrStatus 0x89ABCDEF),
   (⟨0x8, .write, 32, 0x89ABCDEF⟩, .wrLen 0x89ABCDEF),
   (⟨0xC, .write, 32, 0x89ABCDEF⟩, .wrRoCount 0x89ABCDEF),
   (⟨0x10, .write, 32, 0x89ABCDEF⟩, .wrRoStartPos 0x89ABCDEF),
   (⟨0x14, .write, 32, 0x89ABCDEF⟩, .wrRoEndBound 0x89ABCDEF),
   (⟨0x18, .write, 32, 0x89ABCDEF⟩, .wrRoPos 0x89ABCDEF),
   (⟨0x1C, .write, 32, 0x89ABCDEF⟩, .wrRoCfg 0x89ABCDEF),
   (⟨0x20, .write, 32, 0x89ABCDEF⟩, .wrRoBufmax 0x89ABCDEF),
   (⟨0x24, .write, 32, 0x89ABCDEF⟩, .wrRsvd 0x24 0x89ABCDEF),
   (⟨0x1000 + 0xFFFFF, .write, 8, 0xA5⟩, .bufWr 0xFFFFF 0xA5),
   (⟨0x1005, .read, 8, 0⟩, .bufRd 5),
   (⟨0x1C, .write, 16, 1⟩, .badReg .write 0x1C 16 1),
   (⟨0x02, .read, 32, 0⟩, .badReg .read 2 32 0)]

theorem test_decode_accesses : ∀ p ∈ accesses, (decodeAccess std p.1).toOption = some p.2 := by decide

theorem test_decode_refused_accesses :
    decodeAccess std ⟨0x1000, .write, 32, 0⟩ = .error (.bufAccessNotByte 32) ∧
      decodeAccess std ⟨0x101000, .read, 8, 0⟩ = .error .outsideWindows := by decide

/-- The opcode table's numbering: a word of each width. -/
theorem test_decode_table_words :
    decodeTableWord 32 0xFFFA5400 = some (.frameMpegStdB5S1 0 0 0) ∧
      decodeTableWord 24 0x494433 = some (.id3v2Mark 0 0 0 0) ∧
      decodeTableWord 24 0x544147 = some .id3v1Mark ∧ decodeTableWord 16 0x1004 = some (.wrStatus 0) ∧
      decodeTableWord 16 0x0018 = some .rdPos ∧ decodeTableWord 8 1 = some (.bufWr 0 0) := by decide

/-! ## Single steps -/

/-- A state with an FSM value, LEN and END_BOUND, and bytes from offset 0 on. -/
def st (fsm : Fsm) (len : Word) (bytes : List Byte) : State :=
  { storeBytes 0 bytes State.reset with fsm := fsm, len := len, endBound := len }

/-- The state after a step that has one. -/
def after (s : State) : Option State :=
  match step s with
  | .next t => some t
  | .fault _ => none
  | .refused _ => none

/-- The state after a host access. -/
def afterAccess (s : State) (i : Input) : Option State := after { s with inputs := [i] }

/-- COUNT, START_POS, END_BOUND, POS, FSM and TRUNC. -/
def scanRegs (s : State) : Word × Word × Word × Word × Fsm × Bool :=
  (s.count, s.startPos, s.endBound, s.pos, s.fsm, s.status.trunc)

/-- V-HOST-05: an accepted START with LEN = 193. -/
theorem test_start_accepted :
    (afterAccess (st .idle 193 []) (hostStart std false)).map State.statusWord = some 1 ∧
      (afterAccess (st .idle 193 []) (hostStart std false)).map scanRegs =
        some (0, 0, 193, 0, .leadTag, false) := by decide

/-- V-HOST-08: LEN = P_BUF_MAX is accepted. -/
theorem test_start_of_a_full_buffer :
    (afterAccess (st .idle 0x100000 []) (hostStart std false)).map State.statusWord = some 1 := by decide

/-- V-HOST-07: LEN > P_BUF_MAX with IE: DONE and ERR, and the interrupt at once. -/
theorem test_start_contract_error :
    (afterAccess (st .idle 0x200000 []) (hostStart std true)).map
      (fun t => (t.statusWord, t.count, t.fsm, t.irq, t.event)) =
      some (6, 0, .idle, true, .contractError 0x200000) := by decide

/-- V-HOST-14: START while BUSY is refused, and IE is written all the same. -/
theorem test_start_while_busy :
    (afterAccess { st .scan 193 [] with ie := true } (hostWr std .ctrl 1)).map
      (fun t => (t.statusWord, t.ie, t.fsm)) = some (9, false, .scan) := by decide

/-- V-HOST-04: bits 31:2 of CTRL are reserved. -/
theorem test_ctrl_reserved_bits :
    (afterAccess (st .idle 0 []) (hostWr std .ctrl 0xFFFFFFFC)).map
      (fun t => (t.ctrlWord, t.fsm)) = some (0, .idle) := by decide

/-- A STATUS with every stored bit set. -/
def allSet : Status := { done := true, err := true, haz := true, trunc := true }

/-- V-HOST-10: TRUNC is read-only. -/
theorem test_status_write_one_to_clear :
    (afterAccess { State.reset with status := allSet } (hostWr std .status 0xFFFFFFFF)).map
      State.statusWord = some 0x10 := by decide

/-- V-HOST-09: only the written bit is cleared. -/
theorem test_status_clears_the_written_bit :
    (afterAccess { State.reset with status := { done := true, err := false, haz := true, trunc := false } }
      (hostWr std .status 8)).map State.statusWord = some 2 := by decide

/-- V-HOST-12: LEN while BUSY. -/
theorem test_len_while_busy :
    (afterAccess (st .leadTag 193 []) (hostWr std .len 5)).map (fun t => (t.len, t.statusWord)) =
      some (193, 9) := by decide

/-- V-HOST-13: a buffer write while BUSY is refused, a read is allowed. -/
theorem test_buffer_while_busy :
    (afterAccess (st .scan 193 [0xFF]) (hostBufW std 0 0)).map (fun t => (t.bufmem, t.statusWord)) =
        some ([(0, 0xFF)], 9) ∧
      (afterAccess (st .scan 193 [0xFF]) (hostBufR std 0)).map (fun t => (t.hostResult, t.statusWord)) =
        some (.byte 0xFF, 1) := by decide

/-- V-HOST-15: a write of COUNT while BUSY changes nothing. -/
theorem test_read_only_write :
    (afterAccess (st .scan 193 []) (hostWr std .count 7)).map (fun t => (t.count, t.statusWord)) =
      some (0, 1) := by decide

/-- V-HOST-02: CFG, BUFMAX and a reserved register. -/
theorem test_constant_reads :
    (afterAccess State.reset (hostRd std .cfg)).map State.hostResult = some (.word 0) ∧
      (afterAccess State.reset (hostRd std .bufmax)).map State.hostResult = some (.word 0x100000) ∧
      (afterAccess { State.reset with cfg := doc } (hostRd doc .cfg)).map State.hostResult =
        some (.word 1) := by decide

/-- V-HOST-16: malformed accesses. -/
theorem test_bad_reg :
    (afterAccess (st .idle 5 []) (.access ⟨0, .write, 16, 1⟩)).map State.fsm = some .idle ∧
      (afterAccess (st .idle 5 []) (.access ⟨0xA, .read, 32, 0⟩)).map State.hostResult =
        some (.word 0) := by decide

/-- V-TAG-03, V-TAG-04 and V-TAG-02: START_POS past the tag. -/
theorem test_lead_tag :
    (after (st .leadTag 300 [0x49, 0x44, 0x33, 3, 0, 0, 0, 0, 2, 1])).map scanRegs =
        some (0, 267, 300, 267, .trailTag, false) ∧
      (after (st .leadTag 300 [0x49, 0x44, 0x33, 3, 0, 0, 0xFF, 0xFF, 0xFF, 0xFF])).map
        State.startPos = some 268435465 ∧
      (after (st .leadTag 10 [0x49, 0x44, 0x33, 0, 0, 0, 0, 0, 0, 0])).map State.startPos = some 10 := by
  decide

/-- V-TAG-01: nine bytes are too short for a tag. -/
theorem test_lead_tag_too_short :
    (after (st .leadTag 9 [0x49, 0x44, 0x33])).map State.startPos = some 0 := by decide

/-- V-TAG-10 and V-TAG-11: the marker at LEN − 128, and one byte too few. -/
theorem test_trail_tag :
    (after (st .trailTag 128 [0x54, 0x41, 0x47])).map scanRegs = some (0, 0, 0, 0, .scan, false) ∧
      (after (st .trailTag 127 [0x54, 0x41, 0x47])).map State.endBound = some 127 := by decide

/-- V-SCAN-07, first step: R205's example. -/
theorem test_scan_counts :
    (after (st .scan 193 [0xFF, 0xFB, 0x54, 0])).map scanRegs =
      some (1, 0, 193, 192, .scan, false) := by decide

/-- V-SCAN-06: a frame that ends on the boundary is not counted. -/
theorem test_scan_truncates :
    (after (st .scan 192 [0xFF, 0xFB, 0x54, 0])).map scanRegs =
      some (0, 0, 192, 0, .finish, true) := by decide

/-- V-SCAN-04, first step: R202's example. -/
theorem test_scan_resynchronises :
    (after (st .scan 5 [0, 0, 0, 0, 0])).map scanRegs = some (0, 0, 5, 1, .scan, false) := by decide

/-- R201's example: POS = 188 with END_BOUND = 192 ends the scan; nothing is read. -/
theorem test_guard :
    (after { st .scan 192 [] with pos := 188 }).map scanRegs =
      some (0, 0, 192, 188, .finish, false) := by decide

/-- R66: a scanner read of a byte not written since the last reset. -/
theorem test_unwritten_byte :
    step (st .scan 193 [0xFF, 0xFB]) = .fault (.unwrittenByte 2) := rfl

/-- R66 and V-RST-01: after RST the scanner may not use a byte that was written before it, and the host still
reads it. -/
theorem test_kept_byte_after_rst :
    (after { st .scan 5 [7] with inputs := [.rst] }).map
      (fun t => (hostByte t 0, (bufRead t 0).toOption)) = some (7, none) := by decide

/-- R206's example: STATUS = 0x00000002 after FINISH. -/
theorem test_finish :
    (after { st .finish 193 [] with count := 1 }).map (fun t => (t.statusWord, t.count, t.event)) =
      some (2, 1, .done) := by decide

/-- R260: RST during a scan; BUFMEM stays, and a power-up loses it. -/
theorem test_reset_and_power_up :
    (after { st .scan 5 [7] with inputs := [.rst] }).map (fun t => (t.len, t.fsm, t.bufmem)) =
        some (0, .idle, [(0, 7)]) ∧
      (after { st .scan 5 [7] with inputs := [.powerUp] }).map (fun t => (t.len, t.fsm, t.bufmem)) =
        some (0, .idle, []) := by decide

/-- A candidate placed for the next step is the one that runs (log 10): FLEN 1441 under MPEG_STD. -/
theorem test_with_fetch_word :
    (after (State.reset.withFetchWord 32 0xFFFBEA00)).map (fun t => (t.count, t.pos)) =
      some (1, 1441) := by decide

/-- R12: "TAG" stands for 0x54 0x41 0x47; a character that is not ASCII gives no image (log 24). -/
theorem test_image_ascii :
    imageAscii "TAG" = some [0x54, 0x41, 0x47] ∧ imageAscii "é" = none := by decide

/-- R103 with HAZ and TRUNC set before it: both are cleared (log 23). -/
theorem test_contract_error_clears_hazard :
    (afterAccess { st .idle 0x200000 [] with status :=
      { done := false, err := false, haz := true, trunc := true } } (hostStart std true)).map
        State.statusWord = some 6 := by decide

/-- R93's example: `.frame 5, 1, 0` is `FF FB 54 00` and 188 zero bytes. -/
theorem test_image_frame :
    imageFrame .mpegStd 5 1 0 0 1 = some ([0xFF, 0xFB, 0x54, 0x00] ++ List.replicate 188 0) := rfl

/-! ## Witnesses: each statement's hypotheses are met together, clause by clause -/

theorem witness_RstGivesTheResetValues :
    ∃ (s : State) (rest : List Input), s.inputs = .rst :: rest ∧ s.fsm = .scan :=
  ⟨{ st .scan 5 [7] with inputs := [.rst] }, [], rfl, rfl⟩

theorem witness_PowerUpGivesTheResetValuesAndLosesBufmem :
    ∃ (s : State) (rest : List Input), s.inputs = .powerUp :: rest ∧ s.fsm = .scan ∧
      Memory.read s.bufmem 0 = some 7 :=
  ⟨{ st .scan 5 [7] with inputs := [.powerUp] }, [], rfl, rfl, rfl⟩

theorem witness_ResetLeavesNoByteForTheScanner :
    (∃ (s : State) (rest : List Input), s.inputs = .rst :: rest ∧ bufRead s 0 = .ok 7 ∧
      0xFFFFF < s.cfg.bufMax.toNat) ∧
      (∃ (s : State) (rest : List Input), s.inputs = .powerUp :: rest ∧ bufRead s 0 = .ok 7 ∧
        0xFFFFF < s.cfg.bufMax.toNat) :=
  ⟨⟨{ st .scan 5 [7] with inputs := [.rst] }, [], rfl, rfl, by decide⟩,
    ⟨{ st .scan 5 [7] with inputs := [.powerUp] }, [], rfl, rfl, by decide⟩⟩

/-- The invariant's clause on the written offsets, checked over the listed ones. -/
theorem writtenHeld_of_all {s : State}
    (h : s.written.all (fun a => (Memory.read s.bufmem a).isSome) = true) :
    ∀ a, s.written.contains a = true → (Memory.read s.bufmem a).isSome = true := fun a ha =>
  List.all_eq_true.1 h a (List.contains_iff_mem.1 ha)

/-- The invariant in a scan, where START_POS is below END_BOUND. -/
def scanning : State :=
  { st .scan 193 [0xFF, 0xFB, 0x54, 0] with pos := 188 }

theorem scanning_inv : scanning.Inv := by constructor <;> first | exact writtenHeld_of_all (by decide) | decide

/-- The invariant after a leading tag larger than the buffer (V-TAG-06). -/
def beyond : State := { st .scan 203 [] with startPos := 16393, pos := 16393 }

theorem beyond_inv : beyond.Inv := by constructor <;> first | exact writtenHeld_of_all (by decide) | decide

theorem witness_StepKeepsInvariant :
    ∃ s t : State, s.Inv ∧ s.fsm = .scan ∧ step s = .next t :=
  ⟨beyond, _, beyond_inv, rfl, rfl⟩

theorem witness_InvariantGivesRegisterBounds :
    (∃ s : State, s.Inv ∧ s.busy = true ∧ s.startPos.toNat ≤ s.endBound.toNat) ∧
      (∃ s : State, s.Inv ∧ s.endBound.toNat < s.startPos.toNat) :=
  ⟨⟨scanning, scanning_inv, by decide, by decide⟩, ⟨beyond, beyond_inv, by decide⟩⟩

theorem witness_LengthClauseOfRule28InEveryReachableState :
    ∃ (inputs : List Input) (n : Nat) (t : State),
      Host.Core.run Sys2Proof.core n { State.reset with inputs := inputs } = .next t ∧ 0 < n :=
  ⟨[hostWr std .len 0xFFFFFFFF], 1, _, rfl, by decide⟩

theorem witness_DecodeOfEncodeIsTheInstruction :
    (∀ i ∈ [Instr.frameMpegStdB14S2 1 1 0x1FF, .rejSr3MpegStd 0 14 0x3FF, .id3v2Mark 0xFF 0 0xFF 0,
        .wrRsvd 0xFFC 0xFFFFFFFF, .bufWr 0xFFFFF 0xFF, .badReg .write 0xFFF 32 0],
      std.wf = true ∧ i.WellFormed std = true ∧ ∀ w, i ≠ .reject w) ∧
      doc.wf = true ∧ (Instr.frameDocTableB1S0 1 0x3FF).WellFormed doc = true := by
  refine ⟨fun i hi => ?_, by decide, by decide⟩
  simp only [List.mem_cons, List.not_mem_nil, or_false] at hi
  rcases hi with rfl | rfl | rfl | rfl | rfl | rfl <;>
    exact ⟨by decide, by decide, (fun w h => nomatch h)⟩

theorem witness_FrameClassIsMaskAndMatch :
    (decodeHdr .mpegStd 0xFFFA1000).frameRow = some (.mpegStd, 1, 0) ∧
      (decodeHdr .docTable 0xFFFBD3FF).frameRow = some (.docTable, 14, 2) ∧
      (decodeHdr .docTable 0xFFFBEA00).frameRow = none := by decide

theorem witness_RejectedCandidatesActAlike :
    classReject .mpegStd 0 = true ∧ classReject .docTable 0xFFFA1400 = true := by decide

theorem witness_UninterpretedBitsChangeNothing :
    (0xFFFB5400 : Word) &&& readMask .mpegStd = 0xFFFA55FF &&& readMask .mpegStd ∧
      (0xFFFAA800 : Word) &&& readMask .docTable = 0xFFFAABFF &&& readMask .docTable := by decide

theorem witness_FrameLengthTable : (14, 1044, 960, 1440) ∈ flenTable := by decide

theorem witness_FrameLengthRange :
    (hdrFields .mpegStd 0xFFFA1400).valid = true ∧ (hdrFields .docTable 0xFFFBD400).valid = true := by decide

theorem witness_LeadingMarkRowSetsStart :
    10 ≤ (st .leadTag 10 []).len.toNat ∧ (st .leadTag 9 []).len.toNat < 10 := by decide

theorem witness_TrailingMarkRowSetsEnd :
    128 ≤ (st .trailTag 128 []).len.toNat ∧ (st .trailTag 127 []).len.toNat < 128 := by decide

/-- A leading-tag header in the smallest buffer that can hold one. -/
def tagged : State := st .leadTag 10 [0x49, 0x44, 0x33, 3, 0, 0, 0xFF, 0xFF, 0xFF, 0xFF]

theorem witness_LeadTagStepFixesTheStart :
    (∃ s : State, ScannerMoves s ∧ s.fsm = .leadTag ∧ s.len.toNat < 10) ∧
    (∃ s : State, ScannerMoves s ∧ s.fsm = .leadTag ∧ 10 ≤ s.len.toNat ∧ bufRead s 0 = .ok 0x49 ∧
      bufRead s 1 = .ok 0x44 ∧ bufRead s 2 = .ok 0x34) ∧
    (ScannerMoves tagged ∧ tagged.fsm = .leadTag ∧ 10 ≤ tagged.len.toNat ∧
      bufRead tagged 0 = .ok 0x49 ∧ bufRead tagged 1 = .ok 0x44 ∧ bufRead tagged 2 = .ok 0x33 ∧
      bufRead tagged 6 = .ok 0xFF ∧ bufRead tagged 7 = .ok 0xFF ∧ bufRead tagged 8 = .ok 0xFF ∧
      bufRead tagged 9 = .ok 0xFF) :=
  ⟨⟨st .leadTag 9 [], .inl rfl, rfl, by decide⟩,
    ⟨st .leadTag 10 [0x49, 0x44, 0x34], .inl rfl, rfl, by decide, rfl, rfl, rfl⟩,
    .inl rfl, rfl, by decide, rfl, rfl, rfl, rfl, rfl, rfl, rfl⟩

/-- A trailing-tag marker in the smallest buffer that can hold one. -/
def trailed : State := st .trailTag 128 [0x54, 0x41, 0x47]

theorem witness_TrailTagStepFixesTheEnd :
    (∃ s : State, ScannerMoves s ∧ s.fsm = .trailTag ∧ s.len.toNat < 128) ∧
    (ScannerMoves trailed ∧ trailed.fsm = .trailTag ∧ 128 ≤ trailed.len.toNat ∧
      bufRead trailed (trailed.len.toNat - 128) = .ok 0x54 ∧
      bufRead trailed (trailed.len.toNat - 127) = .ok 0x41 ∧
      bufRead trailed (trailed.len.toNat - 126) = .ok 0x47) :=
  ⟨⟨st .trailTag 127 [], .inl rfl, rfl, by decide⟩, .inl rfl, rfl, by decide, by decide, by decide,
    by decide⟩

theorem witness_GuardFailureEndsTheScan :
    (∃ s : State, ScannerMoves s ∧ s.fsm = .scan ∧ s.pos.toNat = 188 ∧ s.endBound.toNat = 192) ∧
      (∃ s : State, ScannerMoves s ∧ s.fsm = .scan ∧ s.endBound.toNat = 4) :=
  ⟨⟨{ st .scan 192 [] with pos := 188 }, .inl rfl, rfl, rfl, rfl⟩, ⟨st .scan 4 [], .inl rfl, rfl, rfl⟩⟩

theorem witness_BoundsPathGivesZeroAndIsUnreachable :
    (∃ s : State, s.fsm = .scan ∧ s.pos.toNat + 4 < s.endBound.toNat ∧ ScannerMoves s ∧
      s.len.toNat = s.pos.toNat + 3) ∧
    (∃ s : State, s.fsm = .scan ∧ s.pos.toNat + 4 < s.endBound.toNat ∧ s.Inv) :=
  ⟨⟨{ st .scan 3 [] with endBound := 5 }, rfl, by decide, .inl rfl, rfl⟩,
    ⟨scanning, rfl, by decide, scanning_inv⟩⟩

theorem witness_FinishReportsTheResult :
    ∃ s : State, ScannerMoves s ∧ s.fsm = .finish :=
  ⟨{ st .finish 5 [] with inputs := [.scannerTurn] }, .inr ⟨[], rfl⟩, rfl⟩

/-- The bytes before the last one of a run that can be read. -/
theorem readable_below {s : State} (a n : Nat)
    (h : (List.range n).all (fun j => (bufRead s (a + j)).toOption.isSome) = true) :
    ∀ j, j < n → Readable s (a + j) := fun j hj => by
  have hj := List.all_eq_true.1 h j (List.mem_range.2 hj)
  cases hb : bufRead s (a + j) with
  | ok b => exact ⟨b, hb⟩
  | error f => rw [hb] at hj; cases hj

/-- A leading-tag header without its last byte. -/
def cutTag : State := st .leadTag 10 [0x49, 0x44, 0x33, 3, 0, 0, 1, 2, 3]

theorem witness_ScannerReadOfUnwrittenByteFaults :
    (∃ s : State, ScannerMoves s ∧ s.fsm = .leadTag ∧ 10 ≤ s.len.toNat ∧
      (∀ j, j < 2 → Readable s (0 + j)) ∧ Missing s 2) ∧
    (ScannerMoves cutTag ∧ cutTag.fsm = .leadTag ∧ 10 ≤ cutTag.len.toNat ∧
      bufRead cutTag 0 = .ok 0x49 ∧ bufRead cutTag 1 = .ok 0x44 ∧ bufRead cutTag 2 = .ok 0x33 ∧
      (∀ j, j < 3 → Readable cutTag (6 + j)) ∧ Missing cutTag 9) ∧
    (∃ s : State, ScannerMoves s ∧ s.fsm = .trailTag ∧ 128 ≤ s.len.toNat ∧
      (∀ j, j < 2 → Readable s (s.len.toNat - 128 + j)) ∧ Missing s (s.len.toNat - 128 + 2)) ∧
    (∃ s : State, ScannerMoves s ∧ s.fsm = .scan ∧ s.pos.toNat + 4 < s.endBound.toNat ∧
      s.pos.toNat + 3 < s.len.toNat ∧ (∀ j, j < 3 → Readable s (s.pos.toNat + j)) ∧
      Missing s (s.pos.toNat + 3)) :=
  ⟨⟨st .leadTag 10 [0x49, 0x44], .inl rfl, rfl, by decide, readable_below 0 2 (by decide),
      by decide, rfl⟩,
    ⟨.inl rfl, rfl, by decide, rfl, rfl, rfl, readable_below 6 3 (by decide), by decide, rfl⟩,
    ⟨st .trailTag 128 [0x54, 0x41], .inl rfl, rfl, by decide, readable_below _ 2 (by decide),
      by decide, rfl⟩,
    ⟨st .scan 5 [1, 2, 3], .inl rfl, rfl, by decide, by decide, readable_below _ 3 (by decide),
      by decide, rfl⟩⟩

/-- Five zero bytes while a scan runs. -/
def zeros : State := st .scan 5 [0, 0, 0, 0, 0]

theorem witness_NoContentStopsTheScanner :
    ∃ s : State, s.Inv ∧ s.Loaded ∧ ScannerMoves s ∧ s.fsm = .scan :=
  ⟨zeros, by constructor <;> first | exact writtenHeld_of_all (by decide) | decide, by unfold State.Loaded; decide, .inl rfl, rfl⟩

theorem witness_ScanStepEndsOrMovesOn :
    ∃ s t : State, ScannerMoves s ∧ s.fsm = .scan ∧ step s = .next t ∧ t.fsm = .scan :=
  ⟨zeros, _, .inl rfl, rfl, rfl, rfl⟩

theorem witness_ScanComputesCountFrames :
    ∃ (s : State) (buf : List Byte) (v : Word), s.fsm = .idle ∧ startBit v = true ∧ s.inputs = [] ∧
      s.len.toNat = buf.length ∧ buf.length ≤ s.cfg.bufMax.toNat ∧ s.Holds buf ∧ 4 < buf.length :=
  ⟨st .idle 5 [0, 0, 0, 0, 0], [0, 0, 0, 0, 0], 1, rfl, rfl, rfl, rfl, by decide,
    by unfold State.Holds; decide, by decide⟩

theorem witness_CountFramesCornerCases : ([0xFF, 0xFB, 0x54, 0x00] : List Byte).length ≤ 4 := by decide

theorem witness_LeadingTagIsTransparent :
    ∃ tag stream : List Byte, imageId3v2 0 0 = some tag ∧ ¬ (stream.take 3 = [0x49, 0x44, 0x33]) ∧
      stream.length < 128 ∧ ¬ (128 ≤ (tag ++ stream).length) :=
  ⟨_, [0xFF, 0xFB, 0x54, 0x00], rfl, by decide, by decide, by decide⟩

theorem witness_TrailingTagIsTransparent :
    ∃ stream body : List Byte, body.length = 125 ∧ ¬ (stream.take 3 = [0x49, 0x44, 0x33]) ∧
      (128 ≤ stream.length → ¬ ((stream.drop (stream.length - 128)).take 3 = [0x54, 0x41, 0x47])) :=
  ⟨[0xFF, 0xFB, 0x54, 0x00], List.replicate 125 0, rfl, by decide, by decide⟩

theorem witness_AssembledFrameCountsWithOneByteAfterIt :
    ∃ image : List Byte, imageFrame .docTable 14 2 1 0x54 0 = some image := ⟨_, rfl⟩

theorem witness_WriteOfCtrlStartsAScan :
    (0 : Word).getLsbD 0 = false ∧ ((1 : Word).getLsbD 0 = true ∧ (st .finish 0 []).fsm ≠ .idle) ∧
      ((st .idle 0x100001 []).fsm = .idle ∧
        (st .idle 0x100001 []).cfg.bufMax.toNat < (st .idle 0x100001 []).len.toNat) ∧
      ((st .idle 0x100000 []).fsm = .idle ∧
        (st .idle 0x100000 []).len.toNat ≤ (st .idle 0x100000 []).cfg.bufMax.toNat) := by decide

theorem witness_WriteOfLenOnlyWhileIdle :
    (st .idle 5 []).fsm = .idle ∧ (st .leadTag 5 []).fsm ≠ .idle := by decide

theorem witness_BufferWriteStoresOneByte :
    (0xFFFFF : Word).toNat < State.reset.cfg.bufMax.toNat ∧ State.reset.fsm = .idle ∧
      (st .trailTag 5 []).fsm ≠ .idle := by decide

theorem witness_BufferReadReturnsTheByte :
    (0xFFFFF : Word).toNat < State.reset.cfg.bufMax.toNat ∧
      Memory.read (st .scan 5 [7]).bufmem (0 : Word).toNat = some 7 ∧
      Memory.read State.reset.bufmem (0xFFFFF : Word).toNat = none := by decide

theorem witness_BufferAccessStaysInsideTheCapacity :
    decodeAccess std ⟨0x1000 + 0xFFFFF, .write, 8, 0xA5⟩ = .ok (.bufWr 0xFFFFF 0xA5) ∧
      decodeAccess std ⟨0x1000 + 0xFFFFF, .read, 8, 0⟩ = .ok (.bufRd 0xFFFFF) ∧
      State.reset.cfg.bufMax.toNat ≤ (0x100000 : Word).toNat := by decide

theorem witness_LoadWritesTheImageAndItsLength :
    ∃ (s : State) (image : List Byte) (rest : List Input), s.fsm = .idle ∧ s.cfg.wf = true ∧
      image.length ≤ s.cfg.bufMax.toNat ∧ s.inputs = hostLoad s.cfg image ++ rest ∧ image = [1, 2] :=
  ⟨{ State.reset with inputs := hostLoad std [1, 2] ++ [hostStart std false] }, [1, 2],
    [hostStart std false], rfl, by decide, by decide, rfl, rfl⟩

theorem witness_MalformedRegisterAccessIsHarmless :
    ∀ a ∈ [(⟨0xFFF, .read, 32, 0⟩ : BusAccess), ⟨0, .write, 16, 1⟩],
      std.regBase ≤ a.addr ∧ a.addr < std.regBase + 0x1000 ∧
        (a.width ≠ 32 ∨ (a.addr - std.regBase) % 4 ≠ 0) := by decide

theorem witness_WideBufferAccessIsRefused :
    ∃ (s : State) (a : BusAccess) (rest : List Input), s.cfg.wf = true ∧ s.inputs = .access a :: rest ∧
      s.cfg.bufBase ≤ a.addr ∧ a.addr < s.cfg.bufBase + s.cfg.bufMax.toNat ∧ a.width ≠ 8 :=
  ⟨{ State.reset with inputs := [.access ⟨0x1000, .write, 32, 0⟩] }, ⟨0x1000, .write, 32, 0⟩, [],
    by decide, rfl, by decide, by decide, by decide⟩

theorem witness_AccessOutsideTheWindowsChangesNothing :
    ∃ (s : State) (a : BusAccess) (rest : List Input), s.inputs = .access a :: rest ∧
      s.cfg.owns a.addr = false :=
  ⟨{ State.reset with inputs := [.access ⟨0x101000, .write, 32, 0⟩] }, ⟨0x101000, .write, 32, 0⟩, [],
    rfl, by decide⟩

theorem witness_InterruptLineFollowsDoneAndEnable :
    (∃ t, exec (.wrStatus 2) { State.reset with ie := true, status := allSet } = .next t) ∧
      (∃ t, exec (.wrCtrl 0) { State.reset with ie := true, status := allSet } = .next t) ∧
      (∃ t, exec (.wrCtrl 2) { State.reset with status := allSet } = .next t) ∧
      (∃ t, exec (.wrCtrl 3) { State.reset with status := allSet } = .next t ∧
        State.reset.len.toNat ≤ State.reset.cfg.bufMax.toNat) ∧
      (∃ t, exec (.wrCtrl 3) (st .idle 0x100001 []) = .next t ∧
        (st .idle 0x100001 []).cfg.bufMax.toNat < (st .idle 0x100001 []).len.toNat) :=
  ⟨⟨_, rfl⟩, ⟨_, rfl⟩, ⟨_, rfl⟩, ⟨_, rfl, by decide⟩, ⟨_, rfl, by decide⟩⟩

theorem witness_OnlyBufferWriteChangesBufmem :
    ∃ (i : Instr) (s t : State), (∀ off b, i ≠ .bufWr off b) ∧ exec i s = .next t :=
  ⟨.frameMpegStdB5S1 1 0 0, zeros, _, (fun _ _ h => nomatch h), rfl⟩

theorem witness_RegistersChangeOnlyByTheirInstructions :
    ∃ (i : Instr) (s t : State) (a : BusAccess), exec i s = .next t ∧ (∀ v, i ≠ .wrLen v) ∧
      (∀ v, i ≠ .wrCtrl v) ∧ decodeAccess s.cfg a = .ok i :=
  ⟨.wrStatus 2, zeros, _, ⟨4, .write, 32, 2⟩, rfl, (fun _ h => nomatch h), (fun _ h => nomatch h), rfl⟩

/-- A scan that runs, with a refused buffer write next on the bus. -/
def disturbed : State := { zeros with inputs := [hostBufW std 0 9] }

theorem witness_BufferAndLengthAreFixedWhileBusy :
    ∃ s t : State, s.busy = true ∧ NotReset s ∧ step s = .next t :=
  ⟨disturbed, _, rfl, fun _ => ⟨(fun h => nomatch h), (fun h => nomatch h)⟩, rfl⟩

theorem witness_HostCannotDisturbAScan :
    ∃ (s t : State) (a : BusAccess) (rest : List Input), s.busy = true ∧
      s.inputs = .access a :: rest ∧ step s = .next t :=
  ⟨disturbed, _, bufAccess std .write 0 9, [], rfl, rfl, rfl⟩

theorem witness_HazardFlagDoesNotAffectTheScan :
    (∃ s t : State, ScannerMoves s ∧ s.fsm = .scan ∧ step s = .next t) ∧
      (∃ (s : State) (f : Fault), ScannerMoves s ∧ step s = .fault f) :=
  ⟨⟨zeros, _, .inl rfl, rfl, rfl⟩, ⟨st .scan 5 [], .unwrittenByte 0, .inl rfl, rfl⟩⟩

theorem witness_ScannerReadsOnlyTheBuffer :
    (∃ (s t : State) (m : Memory) (w : Offsets), ScannerMoves s ∧
      (∀ a, a < s.len.toNat →
        State.loadedByte { s with bufmem := m, written := w } a = s.loadedByte a) ∧
      m ≠ s.bufmem ∧ w ≠ s.written ∧ step s = .next t) ∧
    (∃ (s : State) (f : Fault) (m : Memory) (w : Offsets), ScannerMoves s ∧
      (∀ a, a < s.len.toNat →
        State.loadedByte { s with bufmem := m, written := w } a = s.loadedByte a) ∧
      m ≠ s.bufmem ∧ w ≠ s.written ∧ step s = .fault f) :=
  ⟨⟨zeros, _, Memory.write zeros.bufmem 5 9, Offsets.add zeros.written 5, .inl rfl, by decide,
      by decide, by decide, rfl⟩,
    ⟨st .scan 5 [], .unwrittenByte 0, [(5, 9)], [5], .inl rfl, by decide, by decide, by decide, rfl⟩⟩

theorem witness_OnlyStartLeavesIdle :
    ∃ s t : State, s.fsm = .idle ∧ step s = .next t ∧ t.fsm ≠ .idle :=
  ⟨{ st .idle 5 [] with inputs := [hostStart std false] }, _, rfl, rfl, by decide⟩

theorem witness_IdleKeepsTheResults :
    (∃ s : State, s.fsm = .idle ∧ ScannerMoves s ∧ s.status = allSet) ∧
    (∃ s t : State, s.fsm = .idle ∧ NotReset s ∧
      (∀ (a : BusAccess) (rest : List Input) (v : Word), s.inputs = .access a :: rest →
        decodeAccess s.cfg a = .ok (.wrCtrl v) → v.getLsbD 0 = false) ∧
      step s = .next t) := by
  refine ⟨⟨{ State.reset with status := allSet, inputs := [.scannerTurn] }, rfl, .inr ⟨[], rfl⟩, rfl⟩,
    { st .idle 5 [] with inputs := [hostWr std .ctrl 2] }, _, rfl,
    fun _ => ⟨(fun h => nomatch h), (fun h => nomatch h)⟩, fun a rest v h hd => ?_, rfl⟩
  cases h
  cases hd
  rfl

theorem witness_NoStepChangesTheParameters :
    ∃ s t : State, s.cfg = doc ∧ step s = .next t :=
  ⟨{ zeros with cfg := doc }, _, rfl, rfl⟩

theorem witness_HeaderLatchIsNotObservable :
    (∃ s t : State, s.fsm = .scan ∧ step s = .next t) ∧
      (∃ (s : State) (f : Fault), step s = .fault f) ∧
      (∃ (s : State) (r : Refusal), step s = .refused r) :=
  ⟨⟨zeros, _, rfl, rfl⟩, ⟨st .scan 5 [], .unwrittenByte 0, rfl⟩,
    ⟨{ zeros with inputs := [.access ⟨0x1000, .write, 32, 0⟩] }, .bufAccessNotByte 32, rfl⟩⟩

theorem witness_StepRunsTheDecodedInstruction :
    (∃ (s : State) (a : BusAccess) (rest : List Input) (i : Instr), s.inputs = .access a :: rest ∧
      decodeAccess s.cfg a = .ok i) ∧
    (∃ (s : State) (b0 b1 b2 b3 : Byte), ScannerMoves s ∧ s.fsm = .scan ∧
      s.pos.toNat + 4 < s.endBound.toNat ∧ s.pos.toNat + 3 < s.len.toNat ∧
      bufRead s s.pos.toNat = .ok b0 ∧ bufRead s (s.pos.toNat + 1) = .ok b1 ∧
      bufRead s (s.pos.toNat + 2) = .ok b2 ∧ bufRead s (s.pos.toNat + 3) = .ok b3) ∧
    (ScannerMoves tagged ∧ tagged.fsm = .leadTag ∧ 10 ≤ tagged.len.toNat ∧
      bufRead tagged 0 = .ok 0x49 ∧ bufRead tagged 1 = .ok 0x44 ∧ bufRead tagged 2 = .ok 0x33 ∧
      bufRead tagged 6 = .ok 0xFF ∧ bufRead tagged 7 = .ok 0xFF ∧ bufRead tagged 8 = .ok 0xFF ∧
      bufRead tagged 9 = .ok 0xFF ∧
      decodeId3v2 [0x49, 0x44, 0x33, 3, 0, 0, 0xFF, 0xFF, 0xFF, 0xFF] =
        .ok (.id3v2Mark 0xFF 0xFF 0xFF 0xFF)) ∧
    (ScannerMoves trailed ∧ trailed.fsm = .trailTag ∧ 128 ≤ trailed.len.toNat ∧
      bufRead trailed (trailed.len.toNat - 128) = .ok 0x54 ∧
      bufRead trailed (trailed.len.toNat - 127) = .ok 0x41 ∧
      bufRead trailed (trailed.len.toNat - 126) = .ok 0x47 ∧
      decodeId3v1 [0x54, 0x41, 0x47] = .ok .id3v1Mark) :=
  ⟨⟨disturbed, bufAccess std .write 0 9, [], .bufWr 0 9, rfl, rfl⟩,
    ⟨zeros, 0, 0, 0, 0, .inl rfl, rfl, by decide, by decide, rfl, rfl, rfl, rfl⟩,
    ⟨.inl rfl, rfl, by decide, rfl, rfl, rfl, rfl, rfl, rfl, rfl, rfl⟩,
    .inl rfl, rfl, by decide, by decide, by decide, by decide, rfl⟩

/-- Two instances at different window addresses. -/
def two : Platform :=
  { instances := [State.reset, { State.reset with cfg :=
      { Config.hardware with regBase := 0x200000, bufBase := 0x201000 } }] }

theorem two_apart : two.Apart := by
  have apart : ∀ (s t : State), s.cfg = std →
      t.cfg = { Config.hardware with regBase := 0x200000, bufBase := 0x201000 } →
      ∀ addr, ¬ (Config.owns s.cfg addr = true ∧ Config.owns t.cfg addr = true) := by
    intro s t hs ht addr h
    simp [hs, ht, Config.owns, std, Config.hardware, Config.regWindow] at h
    omega
  intro j k s t hjk hs ht addr
  match j, k with
  | 0, 0 => exact absurd rfl hjk
  | 0, 1 => cases hs; cases ht; exact apart _ _ rfl rfl addr
  | 1, 0 => cases hs; cases ht; exact fun h => apart _ _ rfl rfl addr h.symm
  | 1, 1 => exact absurd rfl hjk
  | j + 2, _ => exact nomatch hs
  | 0, k + 2 => exact nomatch ht
  | 1, k + 2 => exact nomatch ht

theorem witness_InstancesShareNoState :
    (∃ (p q : Platform) (j k : Nat), j ≠ k ∧ p.stepInstance k = .next q) ∧
    (∃ (p : Platform) (j k : Nat) (s t : State) (a : BusAccess), p.Apart ∧ j ≠ k ∧
      p.instances[j]? = some s ∧ p.instances[k]? = some t ∧ s.cfg.owns a.addr = true) ∧
    (∃ (p q : Platform) (k : Nat), p.Legal ∧ p.stepInstance k = .next q ∧ p.instances.length = 2) :=
  ⟨⟨two, _, 0, 1, by decide, rfl⟩,
    ⟨two, 0, 1, _, _, ⟨4, .read, 32, 0⟩, two_apart, by decide, rfl, rfl, by decide⟩,
    ⟨two, _, 1, ⟨by decide, two_apart⟩, rfl, rfl⟩⟩

end Sys2Proof.Tests
end

section
/-! PROOFS. The invariant (spec/10_state.md R28): one lemma per named update that says under which condition the
update keeps it, then every step by the cases of Laws/Step.lean. Each lemma lists only the clauses the update
touches; the others are those of the state before. -/

namespace Sys2Proof.Machine

theorem State.busy_of_fsm {s : State} {f : Fsm} (hf : s.fsm = f) (hne : f ≠ .idle := by decide) :
    s.busy = true :=
  State.busy_eq_true.2 (hf ▸ hne)

theorem State.not_busy_of_idle {s : State} (hf : s.fsm = .idle) : ¬ s.busy = true := fun hb =>
  State.busy_eq_true.1 hb hf

/-- A scan that is still searching has not met the boundary rule. -/
theorem State.Inv.trunc_eq_false {s : State} (h : s.Inv) {f : Fsm} (hf : s.fsm = f)
    (hi : f ≠ .idle := by decide) (hn : f ≠ .finish := by decide) : s.status.trunc = false := by
  cases ht : s.status.trunc with
  | false => rfl
  | true =>
    rcases h.truncEnds ht with hidle | hfin
    · exact absurd (hf.symm.trans hidle) hi
    · exact absurd (hf.symm.trans hfin) hn

/-! ## Exact arithmetic of the scan loop (R208) -/

theorem word_add_one_toNat {x : Word} {n : Nat} (h : x.toNat < n) (hn : n < 2 ^ 32) :
    (x + 1).toNat = x.toNat + 1 :=
  BitVec.toNat_add_of_lt (by simp; omega)

/-- The scan position that a counted frame leaves before END_BOUND does not wrap. -/
theorem countFrame_pos_toNat {n : Nat} {s : State} (h : n < s.endBound.toNat) :
    (countFrame n s).pos.toNat = n :=
  (BitVec.toNat_ofNat n 32).trans (Nat.mod_eq_of_lt (h.trans s.endBound.isLt))

/-! ## Turns, reads and events -/

theorem State.Inv.beginTurn {s : State} (h : s.Inv) (rest : List Input) : (beginTurn rest s).Inv :=
  { h with }

theorem State.Inv.returnRead {s : State} (h : s.Inv) (r : ReadResult) : (returnRead r s).Inv :=
  { h with }

theorem State.Inv.setIe {s : State} (h : s.Inv) (v : Word) : (setIe v s).Inv :=
  { h with }

theorem State.Inv.raiseHazard {s : State} (h : s.Inv) (k : HazardKind) : (raiseHazard k s).Inv :=
  { h with }

/-- An acknowledge only clears flags. -/
theorem State.Inv.acknowledge {s : State} (h : s.Inv) (v : Word) : (acknowledge v s).Inv :=
  { h with
    busyFlags := fun hb => by
      obtain ⟨hdone, herr⟩ := h.busyFlags hb
      simp [hdone, herr] }

/-! ## Host operations -/

theorem State.Inv.setLen {s : State} (h : s.Inv) (v : Word) (hf : s.fsm = .idle) : (setLen v s).Inv :=
  { h with
    busyLen := fun hb => absurd hb (State.not_busy_of_idle hf)
    leadStart := by simp [hf]
    trailStart := by simp [hf] }

theorem State.Inv.contractError {s : State} (h : s.Inv) (hf : s.fsm = .idle) : (contractError s).Inv :=
  { h with
    startBounded := by simp
    boundInBuffer := by simp
    startLePos := by simp
    posBounded := by simp
    countBounded := by simp
    busyLen := fun hb => absurd hb (State.not_busy_of_idle hf)
    busyFlags := fun hb => absurd hb (State.not_busy_of_idle hf)
    truncEnds := by simp
    leadStart := by simp [hf]
    trailStart := by simp [hf] }

/-- R102: an accepted START fixes END_BOUND to a LEN that the buffer holds. -/
theorem State.Inv.acceptStart {s : State} (h : s.Inv) (hl : s.len.toNat ≤ s.cfg.bufMax.toNat) :
    (acceptStart s).Inv :=
  { h with
    startBounded := by simp
    boundInBuffer := hl
    startLePos := by simp
    posBounded := by simp
    countBounded := by simp
    busyLen := fun _ => ⟨le_rfl, hl⟩
    busyFlags := fun _ => ⟨rfl, rfl⟩
    truncEnds := by simp
    leadStart := fun _ => ⟨rfl, rfl, rfl, rfl⟩
    trailStart := by simp }

theorem State.Inv.start {s : State} (h : s.Inv) : (start s).Inv := by
  rcases start_cases s with ⟨_, e⟩ | ⟨hf, _, e⟩ | ⟨_, hl, e⟩ <;> rw [e]
  · exact h.raiseHazard _
  · exact h.contractError hf
  · exact h.acceptStart hl

/-- R107: a stored byte exists, and BUFMEM holds it. -/
theorem State.Inv.storeByte {s : State} (h : s.Inv) {a : Nat} (b : Byte)
    (ha : a < s.cfg.bufMax.toNat) : (storeByte a b s).Inv :=
  { h with
    bufmemWf := Memory.wf_write a b h.bufmemWf
    bufmemBelow := Memory.below_write b ha h.bufmemBelow
    writtenWf := Offsets.wf_add a h.writtenWf
    writtenHeld := fun k hk => by
      by_cases hka : k = a
      · subst hka
        simp [Memory.read_write_same]
      · have hw : s.written.contains k = true := (Offsets.contains_add.1 hk).resolve_left hka
        rw [storeByte_bufmem, Memory.read_write_other _ _ _ _ hka]
        exact h.writtenHeld k hw }

/-! ## Tag steps -/

/-- R132: the scan position is the start position, and no frame is counted yet. -/
theorem State.Inv.setStart {s : State} (h : s.Inv) {n : Nat} (hf : s.fsm = .leadTag)
    (hn : n ≤ 268435465) : (setStart n s).Inv := by
  have hstart := setStart_startPos_toNat hn s
  obtain ⟨-, -, hcount, hend⟩ := h.leadStart hf
  exact { h with
    startBounded := by rwa [hstart]
    startLePos := le_rfl
    posBounded := le_max_left _ _
    countBounded := by simp [hcount]
    busyLen := fun _ => h.busyLen (State.busy_of_fsm hf)
    busyFlags := fun _ => h.busyFlags (State.busy_of_fsm hf)
    truncEnds := by simp [h.trunc_eq_false hf]
    leadStart := by simp
    trailStart := fun _ => ⟨rfl, hcount, hend⟩ }

/-- R136: the scan position is still the start position, so it is bounded whatever END_BOUND becomes. -/
theorem State.Inv.setEnd {s : State} (h : s.Inv) {n : Nat} (hf : s.fsm = .trailTag)
    (hn : n ≤ s.len.toNat) : (setEnd n s).Inv := by
  have hend := setEnd_endBound_toNat hn
  obtain ⟨-, hlen⟩ := h.busyLen (State.busy_of_fsm hf)
  obtain ⟨hpos, -, -⟩ := h.trailStart hf
  exact { h with
    boundInBuffer := by rw [hend]; exact hn.trans hlen
    posBounded := by simp [hpos]
    busyLen := fun _ => ⟨by rwa [hend], hlen⟩
    busyFlags := fun _ => h.busyFlags (State.busy_of_fsm hf)
    truncEnds := by simp [h.trunc_eq_false hf]
    leadStart := by simp
    trailStart := by simp }

/-! ## Scan loop -/

theorem State.Inv.latchHdr {s : State} (h : s.Inv) (w : Word) : (latchHdr w s).Inv :=
  { h with }

theorem State.Inv.releaseHdr {s : State} (h : s.Inv) : (releaseHdr s).Inv :=
  { h with }

theorem State.Inv.endScan {s : State} (h : s.Inv) (hf : s.fsm = .scan) : (endScan s).Inv :=
  { h with
    busyLen := fun _ => h.busyLen (State.busy_of_fsm hf)
    busyFlags := fun _ => h.busyFlags (State.busy_of_fsm hf)
    truncEnds := fun _ => .inr rfl
    leadStart := by simp
    trailStart := by simp }

theorem State.Inv.boundsPath {s : State} (h : s.Inv) (hf : s.fsm = .scan) : (boundsPath s).Inv :=
  { h.endScan hf with
    countBounded := by simpa using h.startLePos
    leadStart := by simp
    trailStart := by simp }

theorem State.Inv.truncateScan {s : State} (h : s.Inv) (hf : s.fsm = .scan) : (truncateScan s).Inv :=
  { h.endScan hf with truncEnds := fun _ => .inr rfl }

/-- R184 and R205: a counted frame moves POS by 96 or more and stays before END_BOUND, so neither POS nor
COUNT wraps. -/
theorem State.Inv.countFrame {s : State} (h : s.Inv) {n : Nat} (hf : s.fsm = .scan)
    (hn : 96 ≤ n) (hend : s.pos.toNat + n < s.endBound.toNat) :
    (countFrame (s.pos.toNat + n) s).Inv := by
  have hpos := countFrame_pos_toNat hend
  have hcount : (s.count + 1).toNat = s.count.toNat + 1 := by
    have := h.countBounded
    exact word_add_one_toNat (n := s.endBound.toNat) (by omega) s.endBound.isLt
  exact { h with
    startLePos := by
      have := h.startLePos
      rw [hpos, countFrame_startPos]
      omega
    posBounded := by
      rw [hpos, countFrame_endBound]
      omega
    countBounded := by
      have := h.countBounded
      rw [hpos, countFrame_count, hcount, countFrame_startPos]
      omega
    leadStart := by simp [hf]
    trailStart := by simp [hf] }

/-- R202: the guard leaves room for the one byte that POS advances by. -/
theorem State.Inv.advanceByOne {s : State} (h : s.Inv) (hf : s.fsm = .scan)
    (hg : s.pos.toNat + 4 < s.endBound.toNat) : (advanceByOne s).Inv := by
  have hpos : (s.pos + 1).toNat = s.pos.toNat + 1 :=
    word_add_one_toNat (n := s.endBound.toNat) (by omega) s.endBound.isLt
  exact { h with
    startLePos := by
      have := h.startLePos
      rw [advanceByOne_pos, hpos, advanceByOne_startPos]
      omega
    posBounded := by
      rw [advanceByOne_pos, hpos, advanceByOne_endBound]
      omega
    countBounded := by
      have := h.countBounded
      rw [advanceByOne_pos, hpos, advanceByOne_startPos, advanceByOne_count]
      omega
    leadStart := by simp [hf]
    trailStart := by simp [hf] }

theorem State.Inv.frameStep {s : State} (h : s.Inv) (hf : s.fsm = .scan) {bri : BitVec 4}
    {sri : BitVec 2} (pad : BitVec 1) (hn : 96 ≤ flen bri sri pad) : (frameStep bri sri pad s).Inv := by
  rcases frameStep_cases bri sri pad s with ⟨_, e⟩ | ⟨hend, e⟩ <;> rw [e]
  · exact (h.truncateScan hf).releaseHdr
  · exact (h.countFrame hf hn hend).releaseHdr

theorem State.Inv.rejectStep {s : State} (h : s.Inv) (hf : s.fsm = .scan)
    (hg : s.pos.toNat + 4 < s.endBound.toNat) : (rejectStep s).Inv :=
  (h.advanceByOne hf hg).releaseHdr

theorem State.Inv.finishScan {s : State} (h : s.Inv) : (finishScan s).Inv :=
  { h with
    busyLen := fun hb => absurd hb (State.not_busy_of_idle rfl)
    busyFlags := fun hb => absurd hb (State.not_busy_of_idle rfl)
    truncEnds := fun _ => .inl rfl
    leadStart := by simp
    trailStart := by simp }

/-! ## Reset -/

theorem State.Inv.assertRst {s : State} (h : s.Inv) : (assertRst s).Inv :=
  { h with
    writtenWf := rfl
    writtenHeld := by simp
    startBounded := by simp
    boundInBuffer := by simp
    startLePos := by simp
    posBounded := by simp
    countBounded := by simp
    busyLen := fun hb => absurd hb (State.not_busy_of_idle rfl)
    busyFlags := fun _ => ⟨rfl, rfl⟩
    truncEnds := by simp
    leadStart := by simp
    trailStart := by simp }

theorem State.Inv.powerUp {s : State} (h : s.Inv) : (powerUp s).Inv :=
  { h.assertRst with
    bufmemWf := rfl
    bufmemBelow := rfl
    writtenHeld := by simp }

/-! ## Every step -/

/-- A valid candidate's frame is 96 bytes or longer (R184). -/
theorem flen_ge_of_valid {f : HdrFields} (hv : f.valid = true) : 96 ≤ flen f.bri f.sri f.pad := by
  simp only [HdrFields.valid, Bool.and_eq_true, bne_iff_ne] at hv
  obtain ⟨⟨⟨-, h0⟩, h15⟩, h3⟩ := hv
  exact (flen_bounds f.pad h0 h15 h3).1

theorem ScannerStep.keeps_inv {s t : State} (hst : ScannerStep s t) (h : s.Inv) : t.Inv := by
  cases hst with
  | idle => exact h
  | start n hf hn => exact h.setStart hf hn
  | bound n hf hn => exact h.setEnd hf hn
  | guardFails hf => exact h.endScan hf
  | bounds hf => exact h.boundsPath hf
  | candidate w hf _ _ hv => exact (h.latchHdr w).frameStep hf _ (flen_ge_of_valid hv)
  | noCandidate w hf hg => exact (h.latchHdr w).rejectStep hf hg
  | finish => exact h.finishScan

theorem HostStep.keeps_inv {s t : State} {i : Instr} (hst : HostStep s i t) (h : s.Inv) : t.Inv := by
  cases hst with
  | read _ r => exact h.returnRead r
  | ctrl v => exact h.setIe v
  | start v => exact (h.setIe v).start
  | status v => exact h.acknowledge v
  | len v hf => exact h.setLen v hf
  | lenHazard => exact h.raiseHazard _
  | ignored => exact h
  | store _ b _ ho => exact h.storeByte b ho
  | bufHazard => exact h.raiseHazard _

end Sys2Proof.Machine

namespace Sys2Proof.Proofs

open Sys2Proof.Machine

/-- Settles O4: each case of a step is one of the updates above. -/
theorem stepKeepsInvariant : Obligations.StepKeepsInvariant := by
  intro s t h hst
  rcases step_cases hst with ⟨_, hscan⟩ | ⟨_, rest, _, _, rfl⟩ | ⟨_, rest, _, _, _, _, hhost⟩ |
    ⟨rest, _, rfl⟩ | ⟨rest, _, rfl⟩
  · exact hscan.keeps_inv (h.beginTurn _)
  · exact h.beginTurn rest
  · exact hhost.keeps_inv (h.beginTurn rest)
  · exact (h.beginTurn rest).assertRst
  · exact (h.beginTurn rest).powerUp

/-- Settles O3: every register is 0 and BUFMEM is empty. -/
theorem invariantHoldsAtReset : Obligations.InvariantHoldsAtReset where
  windows := by decide
  bufmemWf := rfl
  bufmemBelow := rfl
  writtenWf := rfl
  writtenHeld := by simp [State.reset]
  startBounded := by decide
  boundInBuffer := by decide
  startLePos := le_rfl
  posBounded := by decide
  countBounded := by decide
  busyLen := fun hb => absurd hb (State.not_busy_of_idle rfl)
  busyFlags := fun _ => ⟨rfl, rfl⟩
  truncEnds := fun _ => .inl rfl
  leadStart := by simp [State.reset]
  trailStart := by simp [State.reset]

/-- Settles O5: the count clauses follow from START_POS + 96 · COUNT ≤ POS ≤ max(START_POS, END_BOUND). -/
theorem invariantGivesRegisterBounds : Obligations.InvariantGivesRegisterBounds := by
  intro s h
  have hcount := h.countBounded
  have hpos := h.posBounded
  refine ⟨h.startBounded, h.boundInBuffer, h.busyLen, hpos, fun hle => ?_, fun hlt => ?_⟩
  · rw [max_eq_right hle] at hpos
    rw [Nat.le_div_iff_mul_le (by decide)]
    omega
  · rw [max_eq_left hlt.le] at hpos
    exact BitVec.eq_of_toNat_eq (by simp; omega)

/-- Refutes O6: the host writes LEN = 0xFFFFFFFF right after reset, which R23 and R105 allow in IDLE. -/
theorem not_lengthClauseOfRule28InEveryReachableState :
    ¬ Obligations.LengthClauseOfRule28InEveryReachableState := by
  intro h
  have hlen := (h [hostWr Config.hardware .len 0xFFFFFFFF] 1 _ rfl).2
  exact absurd hlen (by decide)

end Sys2Proof.Proofs
end

section
/-! PROOFS. Frames of a step: the parameters (spec/10_state.md R29), and what IDLE keeps (R30, R62). -/

namespace Sys2Proof.Machine

theorem frameStep_cfg (bri : BitVec 4) (sri : BitVec 2) (pad : BitVec 1) (s : State) :
    (frameStep bri sri pad s).cfg = s.cfg := by
  rcases frameStep_cases bri sri pad s with ⟨_, e⟩ | ⟨_, e⟩ <;> rw [e] <;> rfl

theorem start_cfg (s : State) : (start s).cfg = s.cfg := by
  rcases start_cases s with ⟨_, e⟩ | ⟨_, _, e⟩ | ⟨_, _, e⟩ <;> rw [e] <;> rfl

theorem ScannerStep.cfg_eq {s t : State} (hst : ScannerStep s t) : t.cfg = s.cfg := by
  cases hst with
  | candidate w => exact frameStep_cfg _ _ _ _
  | _ => rfl

theorem HostStep.cfg_eq {s t : State} {i : Instr} (hst : HostStep s i t) : t.cfg = s.cfg := by
  cases hst with
  | start v => exact start_cfg _
  | _ => rfl

/-- In IDLE the scanner's turn is no step (R245). -/
theorem ScannerStep.eq_of_idle {s t : State} (hst : ScannerStep s t) (hf : s.fsm = .idle) : t = s := by
  cases hst with
  | idle => rfl
  | _ => simp_all

/-- FSM and the results of a scan are the same in both states. -/
structure SameScan (s t : State) : Prop where
  fsm : t.fsm = s.fsm
  count : t.count = s.count
  startPos : t.startPos = s.startPos
  endBound : t.endBound = s.endBound
  pos : t.pos = s.pos
  trunc : t.status.trunc = s.status.trunc

/-- A host instruction keeps FSM and the results, except a write of CTRL with START = 1. -/
theorem HostStep.sameScan_or_start {s t : State} {i : Instr} (hst : HostStep s i t) :
    SameScan s t ∨ ∃ v, i = .wrCtrl v ∧ startBit v = true ∧ t = Machine.start (Machine.setIe v s) := by
  cases hst with
  | start v hv => exact .inr ⟨v, rfl, hv, rfl⟩
  | _ => exact .inl ⟨rfl, rfl, rfl, rfl, rfl, rfl⟩

/-- START = 1 leaves IDLE only where it is accepted, and then for LEAD_TAG. -/
theorem start_leaves_idle {s : State} (hf : s.fsm = .idle) (ht : (start s).fsm ≠ .idle) :
    (start s).fsm = .leadTag ∧ s.len.toNat ≤ s.cfg.bufMax.toNat := by
  rcases start_cases s with ⟨hb, _⟩ | ⟨_, _, e⟩ | ⟨_, hl, e⟩
  · exact absurd hf hb
  · exact absurd (e ▸ hf) ht
  · exact ⟨e ▸ rfl, hl⟩

/-- A step from IDLE that is no reset keeps FSM and the results, or is a write of CTRL with START = 1. -/
theorem step_of_idle {s t : State} (hf : s.fsm = .idle) (hst : step s = .next t) :
    SameScan s t ∨
    (∃ rest, s.inputs = .rst :: rest ∧ t.fsm = .idle) ∨
    (∃ rest, s.inputs = .powerUp :: rest ∧ t.fsm = .idle) ∨
    ∃ a rest v, s.inputs = .access a :: rest ∧ decodeAccess s.cfg a = .ok (.wrCtrl v) ∧
      startBit v = true ∧ t = start (setIe v (beginTurn rest s)) := by
  rcases step_cases hst with ⟨_, hscan⟩ | ⟨_, rest, _, _, rfl⟩ | ⟨a, rest, i, hi, hd, _, hhost⟩ |
    ⟨rest, hi, rfl⟩ | ⟨rest, hi, rfl⟩
  · rw [hscan.eq_of_idle hf]
    exact .inl ⟨rfl, rfl, rfl, rfl, rfl, rfl⟩
  · exact .inl ⟨rfl, rfl, rfl, rfl, rfl, rfl⟩
  · rcases hhost.sameScan_or_start with h | ⟨v, rfl, hv, rfl⟩
    · exact .inl ⟨h.fsm, h.count, h.startPos, h.endBound, h.pos, h.trunc⟩
    · exact .inr (.inr (.inr ⟨a, rest, v, hi, hd, hv, rfl⟩))
  · exact .inr (.inl ⟨rest, hi, rfl⟩)
  · exact .inr (.inr (.inl ⟨rest, hi, rfl⟩))

end Sys2Proof.Machine

namespace Sys2Proof.Proofs

open Sys2Proof.Machine

/-- Settles O55: no update of the registers writes the parameters. -/
theorem noStepChangesTheParameters : Obligations.NoStepChangesTheParameters := by
  intro s t hst
  rcases step_cases hst with ⟨_, hscan⟩ | ⟨_, _, _, _, rfl⟩ | ⟨_, _, _, _, _, _, hhost⟩ |
    ⟨_, _, rfl⟩ | ⟨_, _, rfl⟩
  · exact hscan.cfg_eq
  · rfl
  · exact hhost.cfg_eq
  · rfl
  · rfl

/-- Settles O53: of what a step from IDLE can be, only START = 1 gives another FSM value. -/
theorem onlyStartLeavesIdle : Obligations.OnlyStartLeavesIdle := by
  intro s t hf hst ht
  rcases step_of_idle hf hst with h | ⟨_, _, h⟩ | ⟨_, _, h⟩ | ⟨a, rest, v, hi, hd, hv, rfl⟩
  · exact absurd (h.fsm.trans hf) ht
  · exact absurd h ht
  · exact absurd h ht
  · obtain ⟨hlead, hlen⟩ := start_leaves_idle (s := setIe v (beginTurn rest s)) hf ht
    exact ⟨hlead, a, rest, v, hi, hd, hv, hlen⟩

/-- Settles O54: the scanner's turn in IDLE ends as it began, and a START and the resets are excluded. -/
theorem idleKeepsTheResults : Obligations.IdleKeepsTheResults := by
  intro s hf
  refine ⟨fun hm => ?_, fun t hr hstart hst => ?_⟩
  · rw [step_scanner hm]
    simp only [scannerTurn, beginTurn_fsm, hf]
    rfl
  · rcases step_of_idle hf hst with h | ⟨rest, hi, _⟩ | ⟨rest, hi, _⟩ | ⟨a, rest, v, hi, hd, hv, _⟩
    · exact ⟨h.fsm.trans hf, h.count, h.startPos, h.endBound, h.pos, h.trunc⟩
    · exact absurd hi (hr rest).1
    · exact absurd hi (hr rest).2
    · have hv' : startBit v = false := hstart a rest v hi hd
      exact absurd hv (by simp [hv'])

end Sys2Proof.Proofs
end

section
/-! PROOFS. The interrupt line (spec/10_state.md R32). -/

namespace Sys2Proof.Machine

theorem State.irq_eq_true {s : State} : s.irq = true ↔ s.status.done = true ∧ s.ie = true :=
  Bool.and_eq_true_iff

/-- An acknowledge of DONE clears the line. -/
theorem acknowledge_irq {v : Word} (hv : v.getLsbD 1 = true) (s : State) :
    (acknowledge v s).irq = false := by
  simp [State.irq, hv]

theorem setIe_irq (v : Word) (s : State) : (setIe v s).irq = (s.status.done && v.getLsbD 1) := rfl

/-- A write of CTRL with START = 0 writes IE and nothing else. -/
theorem exec_wrCtrl_of_not_startBit {v : Word} (hv : startBit v = false) (s : State) :
    exec (.wrCtrl v) s = .next (setIe v s) := by
  simp [exec, execWrCtrl, hv]

/-- A write of CTRL with START = 1 writes IE and then considers START. -/
theorem exec_wrCtrl_of_startBit {v : Word} (hv : startBit v = true) (s : State) :
    exec (.wrCtrl v) s = .next (start (setIe v s)) := by
  simp [exec, execWrCtrl, hv]

/-- START leaves IE as it was written before. -/
theorem start_ie (s : State) : (start s).ie = s.ie := by
  rcases start_cases s with ⟨_, e⟩ | ⟨_, _, e⟩ | ⟨_, _, e⟩ <;> rw [e] <;> rfl

/-- A write of CTRL writes IE, whatever START is. -/
theorem exec_wrCtrl_ie {v : Word} {s t : State} (hex : exec (.wrCtrl v) s = .next t) :
    t.ie = v.getLsbD 1 := by
  cases hv : startBit v with
  | false => exact next_inj ((exec_wrCtrl_of_not_startBit hv s).symm.trans hex) ▸ rfl
  | true => exact next_inj ((exec_wrCtrl_of_startBit hv s).symm.trans hex) ▸ start_ie _

/-- An accepted START clears DONE. -/
theorem start_done_of_accepted {s : State} (hf : s.fsm = .idle)
    (hl : s.len.toNat ≤ s.cfg.bufMax.toNat) : (start s).status.done = false := by
  rcases start_cases s with ⟨hb, _⟩ | ⟨_, hlt, _⟩ | ⟨_, _, e⟩
  · exact absurd hf hb
  · omega
  · exact e ▸ rfl

/-- A contract error sets DONE at once (R103). -/
theorem start_done_of_contractError {s : State} (hf : s.fsm = .idle)
    (hl : s.cfg.bufMax.toNat < s.len.toNat) : (start s).status.done = true := by
  rcases start_cases s with ⟨hb, _⟩ | ⟨_, _, e⟩ | ⟨_, hle, _⟩
  · exact absurd hf hb
  · exact e ▸ rfl
  · omega

end Sys2Proof.Machine

namespace Sys2Proof.Proofs

open Sys2Proof.Machine

/-- Settles O46: the line is read off DONE and IE after each write. -/
theorem interruptLineFollowsDoneAndEnable : Obligations.InterruptLineFollowsDoneAndEnable := by
  intro s t v
  refine ⟨State.irq_eq_true, fun hex hv => ?_, fun hex hv => ?_, fun hex hv => ?_,
    fun hex hv hf hl => ?_, fun hex hv hf hl => ?_⟩
  · exact next_inj hex ▸ acknowledge_irq hv s
  · rw [State.irq, exec_wrCtrl_ie hex, hv, Bool.and_false]
  · obtain rfl := next_inj ((exec_wrCtrl_of_not_startBit hv s).symm.trans hex)
    exact setIe_irq v s
  · obtain rfl := next_inj ((exec_wrCtrl_of_startBit hv s).symm.trans hex)
    simp [State.irq, start_done_of_accepted (s := setIe v s) hf hl]
  · have hie := exec_wrCtrl_ie hex
    obtain rfl := next_inj ((exec_wrCtrl_of_startBit hv s).symm.trans hex)
    simp [State.irq, start_done_of_contractError (s := setIe v s) hf hl, hie]

end Sys2Proof.Proofs
end

section
/-! PROOFS. HDR is not observable outside a SCAN step (spec/10_state.md R31): replacing HDR commutes with a
step, up to the value of HDR it leaves. -/

namespace Sys2Proof.Machine

/-- The state with another value in HDR. -/
def withHdr (w : Word) (s : State) : State := { s with hdr := w }

/-- A change of the next state, where there is one; a stop stays what it is. -/
def mapNext (f : State → State) : Result → Result
  | .next s => .next (f s)
  | .fault r => .fault r
  | .refused r => .refused r

@[simp] theorem mapNext_next (f : State → State) (s : State) : mapNext f (.next s) = .next (f s) := rfl
@[simp] theorem mapNext_fault (f : State → State) (r : Fault) : mapNext f (.fault r) = .fault r := rfl
@[simp] theorem mapNext_refused (f : State → State) (r : Refusal) :
    mapNext f (.refused r) = .refused r := rfl

/-! What the tests and reads of the scanner's turn see does not include HDR. -/

@[simp] theorem roomForId3v2_withHdr (w : Word) (s : State) :
    (withHdr w s).roomForId3v2 = s.roomForId3v2 := rfl
@[simp] theorem roomForId3v1_withHdr (w : Word) (s : State) :
    (withHdr w s).roomForId3v1 = s.roomForId3v1 := rfl
@[simp] theorem guard_withHdr (w : Word) (s : State) : (withHdr w s).guard = s.guard := rfl
@[simp] theorem outOfBounds_withHdr (w : Word) (s : State) :
    (withHdr w s).outOfBounds = s.outOfBounds := rfl
@[simp] theorem bufRead3_withHdr (w : Word) (s : State) (a : Nat) :
    bufRead3 (withHdr w s) a = bufRead3 s a := rfl
@[simp] theorem bufRead4_withHdr (w : Word) (s : State) (a : Nat) :
    bufRead4 (withHdr w s) a = bufRead4 s a := rfl
@[simp] theorem memRead4_withHdr (w : Word) (s : State) (a : Nat) :
    memRead4 (withHdr w s) a = memRead4 s a := rfl
@[simp] theorem withHdr_fsm (w : Word) (s : State) : (withHdr w s).fsm = s.fsm := rfl
@[simp] theorem withHdr_cfg (w : Word) (s : State) : (withHdr w s).cfg = s.cfg := rfl
@[simp] theorem withHdr_len (w : Word) (s : State) : (withHdr w s).len = s.len := rfl
@[simp] theorem withHdr_pos (w : Word) (s : State) : (withHdr w s).pos = s.pos := rfl
@[simp] theorem withHdr_inputs (w : Word) (s : State) : (withHdr w s).inputs = s.inputs := rfl

/-! ## The instructions -/

theorem start_withHdr (w : Word) (s : State) : start (withHdr w s) = withHdr w (start s) := by
  simp only [start, apply_ite (withHdr w)]
  rfl

/-- A valid candidate's step ends with HDR released, whatever it was. -/
theorem frameStep_withHdr (w : Word) (bri : BitVec 4) (sri : BitVec 2) (pad : BitVec 1) (s : State) :
    frameStep bri sri pad (withHdr w s) = frameStep bri sri pad s := by
  simp only [frameStep, apply_ite releaseHdr]
  rfl

theorem execWrCtrl_withHdr (v w : Word) (s : State) :
    execWrCtrl v (withHdr w s) = mapNext (withHdr w) (execWrCtrl v s) := by
  simp only [execWrCtrl, mapNext_next, apply_ite (withHdr w), ← start_withHdr]
  rfl

theorem execWrLen_withHdr (v w : Word) (s : State) :
    execWrLen v (withHdr w s) = mapNext (withHdr w) (execWrLen v s) := by
  simp only [execWrLen, mapNext_next, apply_ite (withHdr w)]
  rfl

theorem execBufWr_withHdr (off : Word) (b : Byte) (w : Word) (s : State) :
    execBufWr off b (withHdr w s) = mapNext (withHdr w) (execBufWr off b s) := by
  simp only [execBufWr, apply_ite (mapNext (withHdr w)), mapNext_next, apply_ite (withHdr w)]
  rfl

theorem execBufRd_withHdr (off w : Word) (s : State) :
    execBufRd off (withHdr w s) = mapNext (withHdr w) (execBufRd off s) := by
  simp only [execBufRd, apply_ite (mapNext (withHdr w))]
  rfl

theorem execId3v2Mark_withHdr (b6 b7 b8 b9 : Byte) (w : Word) (s : State) :
    execId3v2Mark b6 b7 b8 b9 (withHdr w s) =
      mapNext (withHdr w) (execId3v2Mark b6 b7 b8 b9 s) := by
  simp only [execId3v2Mark, apply_ite (mapNext (withHdr w))]
  rfl

theorem execId3v1Mark_withHdr (w : Word) (s : State) :
    execId3v1Mark (withHdr w s) = mapNext (withHdr w) (execId3v1Mark s) := by
  simp only [execId3v1Mark, apply_ite (mapNext (withHdr w))]
  rfl

/-- No instruction reads HDR: a candidate row overwrites it, every other row keeps it. The rows without a
case of their own are the frames, the rejected candidates and the host rows without a condition. -/
theorem exec_withHdr (i : Instr) (w : Word) (s : State) :
    exec i (withHdr w s) = exec i s ∨ exec i (withHdr w s) = mapNext (withHdr w) (exec i s) := by
  cases i
  case wrCtrl v => exact .inr (execWrCtrl_withHdr v w s)
  case wrLen v => exact .inr (execWrLen_withHdr v w s)
  case bufWr off b => exact .inr (execBufWr_withHdr off b w s)
  case bufRd off => exact .inr (execBufRd_withHdr off w s)
  case id3v2Mark b6 b7 b8 b9 => exact .inr (execId3v2Mark_withHdr b6 b7 b8 b9 w s)
  case id3v1Mark => exact .inr (execId3v1Mark_withHdr w s)
  case badReg dir _ _ _ => cases dir <;> exact .inr rfl
  all_goals
    first
    | exact .inl (congrArg Host.Outcome.next (frameStep_withHdr w _ _ _ s))
    | exact .inl rfl
    | exact .inr rfl

/-! ## The turns -/

theorem leadTagTurn_withHdr (w : Word) (s : State) :
    runTurn (leadTagTurn (withHdr w s)) = mapNext (withHdr w) (runTurn (leadTagTurn s)) := by
  unfold leadTagTurn
  rw [roomForId3v2_withHdr, bufRead3_withHdr, bufRead4_withHdr]
  split
  · split
    · rfl
    · split
      · split
        · rfl
        · exact execId3v2Mark_withHdr _ _ _ _ w s
      · rfl
  · rfl

theorem trailTagTurn_withHdr (w : Word) (s : State) :
    runTurn (trailTagTurn (withHdr w s)) = mapNext (withHdr w) (runTurn (trailTagTurn s)) := by
  unfold trailTagTurn
  rw [roomForId3v1_withHdr, bufRead3_withHdr, withHdr_len]
  split
  · split
    · rfl
    · split
      · exact execId3v1Mark_withHdr w s
      · rfl
  · rfl

/-- A SCAN step that fetches latches the candidate over the old HDR; one that does not keeps it. -/
theorem scanTurn_withHdr (w : Word) (s : State) :
    runTurn (scanTurn (withHdr w s)) = runTurn (scanTurn s) ∨
    runTurn (scanTurn (withHdr w s)) = mapNext (withHdr w) (runTurn (scanTurn s)) := by
  unfold scanTurn
  rw [guard_withHdr, outOfBounds_withHdr, memRead4_withHdr, withHdr_pos]
  split
  · split
    · exact .inr rfl
    · exact .inl rfl
  · exact .inr rfl

theorem scannerTurn_withHdr (w : Word) (s : State) :
    runTurn (scannerTurn (withHdr w s)) = runTurn (scannerTurn s) ∨
    runTurn (scannerTurn (withHdr w s)) = mapNext (withHdr w) (runTurn (scannerTurn s)) := by
  simp only [scannerTurn, withHdr_fsm]
  split
  · exact .inr rfl
  · exact .inr (leadTagTurn_withHdr w s)
  · exact .inr (trailTagTurn_withHdr w s)
  · exact scanTurn_withHdr w s
  · exact .inr rfl

theorem accessTurn_withHdr (a : BusAccess) (w : Word) (s : State) :
    runTurn (accessTurn a (withHdr w s)) = runTurn (accessTurn a s) ∨
    runTurn (accessTurn a (withHdr w s)) = mapNext (withHdr w) (runTurn (accessTurn a s)) := by
  simp only [accessTurn, withHdr_cfg]
  split
  · exact exec_withHdr _ w s
  · exact .inr rfl
  · exact .inr rfl

/-- A step overwrites HDR or keeps it, and does not look at it (R31). -/
theorem step_withHdr (w : Word) (s : State) :
    step (withHdr w s) = step s ∨ step (withHdr w s) = mapNext (withHdr w) (step s) := by
  simp only [step, turn, withHdr_inputs]
  split
  · exact scannerTurn_withHdr w (beginTurn [] s)
  · next rest _ => exact scannerTurn_withHdr w (beginTurn rest s)
  · next a rest _ => exact accessTurn_withHdr a w (beginTurn rest s)
  · exact .inl rfl
  · exact .inl rfl

end Sys2Proof.Machine

namespace Sys2Proof.Proofs

open Sys2Proof.Machine

/-- Settles O56: where a step keeps HDR the next state holds the replaced word, and where it overwrites HDR
the next states are equal. -/
theorem headerLatchIsNotObservable : Obligations.HeaderLatchIsNotObservable := by
  intro s w
  have hstep : ∀ r, step s = r →
      step { s with hdr := w } = r ∨ step { s with hdr := w } = mapNext (withHdr w) r :=
    fun r hr => hr ▸ step_withHdr w s
  refine ⟨fun t ht => ?_, fun f hf => ?_, fun r hr => ?_⟩
  · rcases hstep _ ht with e | e
    · exact ⟨t.hdr, e⟩
    · exact ⟨w, e⟩
  · exact (hstep _ hf).elim id id
  · exact (hstep _ hr).elim id id

end Sys2Proof.Proofs
end

section
/-! PROOFS. The scanner's turns that read BUFMEM (spec/20_memory.md R53, R66): each ends with the fault of its first
missing byte, or runs the instruction it decoded. -/

namespace Sys2Proof.Machine

open Sys2Proof.Claims

/-- A byte that exists and is not written since the last reset stops the run by name (R66). -/
theorem bufRead_of_missing {s : State} {a : Nat} (h : Missing s a) :
    bufRead s a = .error (.unwrittenByte a) := by
  obtain ⟨hexists, hnone⟩ := h
  simp [bufRead, hexists, hnone]

theorem taken_eq_beginTurn (s : State) : taken s = beginTurn s.inputs.tail s := rfl

theorem memRead4_error {s : State} {a : Nat} {f : Fault} (h : bufRead4 s a = .error f) :
    memRead4 s a = .error f := by
  simp [memRead4, h]

/-- Only a marked header decodes as a leading tag, and bytes 3 to 5 are not read (R80). -/
theorem decodeId3v2_eq_ok {m0 m1 m2 x3 x4 x5 b6 b7 b8 b9 : Byte} {i : Instr}
    (h : decodeId3v2 [m0, m1, m2, x3, x4, x5, b6, b7, b8, b9] = .ok i) :
    isId3v2Mark m0 m1 m2 = true ∧ i = .id3v2Mark b6 b7 b8 b9 := by
  simp only [decodeId3v2] at h
  split at h
  · next hmark => exact ⟨hmark, (Except.ok.inj h).symm⟩
  · cases h

/-- Only marked bytes decode as a trailing tag (R81). -/
theorem decodeId3v1_eq_ok {m0 m1 m2 : Byte} {i : Instr} (h : decodeId3v1 [m0, m1, m2] = .ok i) :
    isId3v1Mark m0 m1 m2 = true ∧ i = .id3v1Mark := by
  simp only [decodeId3v1] at h
  split at h
  · next hmark => exact ⟨hmark, (Except.ok.inj h).symm⟩
  · cases h

/-! ## The LEAD_TAG step -/

section LeadTag

variable {s : State} (hm : ScannerMoves s) (hf : s.fsm = .leadTag) (hl : 10 ≤ s.len.toNat)
include hm hf hl

theorem step_leadTag_of_marker_fault {f : Fault} (h : bufRead3 s 0 = .error f) :
    step s = .fault f := by
  simp [step_scanner hm, scannerTurn, hf, leadTagTurn, State.roomForId3v2, hl, h, runTurn]

theorem step_leadTag_of_size_fault {m0 m1 m2 : Byte} {f : Fault} (h3 : bufRead3 s 0 = .ok (m0, m1, m2))
    (hmark : isId3v2Mark m0 m1 m2 = true) (h4 : bufRead4 s 6 = .error f) : step s = .fault f := by
  simp [step_scanner hm, scannerTurn, hf, leadTagTurn, State.roomForId3v2, hl, h3, hmark, h4, runTurn]

theorem step_leadTag_of_mark {m0 m1 m2 b6 b7 b8 b9 : Byte} (h3 : bufRead3 s 0 = .ok (m0, m1, m2))
    (hmark : isId3v2Mark m0 m1 m2 = true) (h4 : bufRead4 s 6 = .ok (b6, b7, b8, b9)) :
    step s = exec (.id3v2Mark b6 b7 b8 b9) (taken s) := by
  simp [step_scanner hm, scannerTurn, hf, leadTagTurn, State.roomForId3v2, hl, h3, hmark, h4, runTurn,
    taken_eq_beginTurn]

end LeadTag

/-! ## The TRAIL_TAG step -/

section TrailTag

variable {s : State} (hm : ScannerMoves s) (hf : s.fsm = .trailTag) (hl : 128 ≤ s.len.toNat)
include hm hf hl

theorem step_trailTag_of_fault {f : Fault} (h : bufRead3 s (s.len.toNat - 128) = .error f) :
    step s = .fault f := by
  simp [step_scanner hm, scannerTurn, hf, trailTagTurn, State.roomForId3v1, hl, h, runTurn]

theorem step_trailTag_of_mark {m0 m1 m2 : Byte} (h3 : bufRead3 s (s.len.toNat - 128) = .ok (m0, m1, m2))
    (hmark : isId3v1Mark m0 m1 m2 = true) : step s = exec .id3v1Mark (taken s) := by
  simp [step_scanner hm, scannerTurn, hf, trailTagTurn, State.roomForId3v1, hl, h3, hmark, runTurn,
    taken_eq_beginTurn]

end TrailTag

/-! ## The SCAN step -/

section Scan

variable {s : State} (hm : ScannerMoves s) (hf : s.fsm = .scan) (hg : s.pos.toNat + 4 < s.endBound.toNat)
  (hl : s.pos.toNat + 3 < s.len.toNat)
include hm hf hg hl

theorem step_scan_of_fault {f : Fault} (h : memRead4 s s.pos.toNat = .error f) : step s = .fault f := by
  simp [step_scanner hm, scannerTurn, hf, scanTurn, State.guard, State.outOfBounds, hg, Nat.not_le.2 hl, h,
    runTurn]

theorem step_scan_of_candidate {w : Word} (h : memRead4 s s.pos.toNat = .ok w) :
    step s = exec (decodeHdr s.cfg.hdrLayout w) (latchHdr w (taken s)) := by
  simp [step_scanner hm, scannerTurn, hf, scanTurn, State.guard, State.outOfBounds, hg, Nat.not_le.2 hl, h,
    runTurn, taken_eq_beginTurn]

end Scan

end Sys2Proof.Machine

namespace Sys2Proof.Proofs

open Sys2Proof.Machine Sys2Proof.Claims

/-- Settles O26: `BufRead` on the first missing byte is the fault of the whole read, and each turn ends with
the fault of its read. -/
theorem scannerReadOfUnwrittenByteFaults : Obligations.ScannerReadOfUnwrittenByteFaults := by
  intro s hm
  refine ⟨fun hf hl => ⟨fun k hk hread hmiss => ?marker, fun h0 h1 h2 k h6 h9 hread hmiss => ?size⟩,
    fun hf hl k hk hread hmiss => ?trail, fun hf hg hl k hk hread hmiss => ?scan⟩
  case marker =>
    rw [← Nat.zero_add k] at hmiss ⊢
    have hread0 : ∀ j, j < k → Readable s (0 + j) := fun j hj => (Nat.zero_add j).symm ▸ hread j hj
    exact step_leadTag_of_marker_fault hm hf hl (bufRead3_error hk hread0 (bufRead_of_missing hmiss))
  case size =>
    obtain ⟨k, rfl⟩ := Nat.exists_eq_add_of_le h6
    exact step_leadTag_of_size_fault hm hf hl (bufRead3_eq_ok h0 h1 h2) rfl
      (bufRead4_error (by omega) (fun j hj => hread (6 + j) (by omega) (by omega))
        (bufRead_of_missing hmiss))
  case trail =>
    exact step_trailTag_of_fault hm hf hl (bufRead3_error hk hread (bufRead_of_missing hmiss))
  case scan =>
    exact step_scan_of_fault hm hf hg hl
      (memRead4_error (bufRead4_error hk hread (bufRead_of_missing hmiss)))

/-- Settles O57: where the reads succeed, each turn runs what it decodes. -/
theorem stepRunsTheDecodedInstruction : Obligations.StepRunsTheDecodedInstruction := by
  intro s
  refine ⟨fun a rest i hi hd => ?access, fun b0 b1 b2 b3 hm hf hg hl h0 h1 h2 h3 => ?candidate,
    fun m0 m1 m2 x3 x4 x5 b6 b7 b8 b9 i hm hf hl h0 h1 h2 h6 h7 h8 h9 hd => ?lead,
    fun m0 m1 m2 i hm hf hl h0 h1 h2 hd => ?trail⟩
  case access => rw [step_access hi hd, taken_eq_beginTurn, hi, List.tail_cons]
  case candidate => exact step_scan_of_candidate hm hf hg hl (memRead4_eq_ok h0 h1 h2 h3)
  case lead =>
    obtain ⟨hmark, rfl⟩ := decodeId3v2_eq_ok hd
    exact step_leadTag_of_mark hm hf hl (bufRead3_eq_ok h0 h1 h2) hmark (bufRead4_eq_ok h6 h7 h8 h9)
  case trail =>
    obtain ⟨hmark, rfl⟩ := decodeId3v1_eq_ok hd
    have e1 : s.len.toNat - 127 = s.len.toNat - 128 + 1 := by omega
    have e2 : s.len.toNat - 126 = s.len.toNat - 128 + 2 := by omega
    exact step_trailTag_of_mark hm hf hl (bufRead3_eq_ok h0 (e1 ▸ h1) (e2 ▸ h2)) hmark

end Sys2Proof.Proofs
end

section
/-! PROOFS. What a step leaves of BUFMEM and LEN while BUSY (spec/20_memory.md R61). -/

namespace Sys2Proof.Machine

/-- The bytes of BUFMEM, which of them are written, and LEN are the same in both states. -/
structure SameBuffer (s t : State) : Prop where
  bufmem : t.bufmem = s.bufmem
  written : t.written = s.written
  len : t.len = s.len

theorem frameStep_sameBuffer (bri : BitVec 4) (sri : BitVec 2) (pad : BitVec 1) (s : State) :
    SameBuffer s (frameStep bri sri pad s) := by
  rcases frameStep_cases bri sri pad s with ⟨_, e⟩ | ⟨_, e⟩ <;> rw [e] <;> exact ⟨rfl, rfl, rfl⟩

theorem start_sameBuffer (s : State) : SameBuffer s (start s) := by
  rcases start_cases s with ⟨_, e⟩ | ⟨_, _, e⟩ | ⟨_, _, e⟩ <;> rw [e] <;> exact ⟨rfl, rfl, rfl⟩

/-- The scanner writes no byte of BUFMEM, and not LEN. -/
theorem ScannerStep.sameBuffer {s t : State} (hst : ScannerStep s t) : SameBuffer s t := by
  cases hst with
  | candidate w => exact { frameStep_sameBuffer _ _ _ (latchHdr w s) with }
  | _ => exact ⟨rfl, rfl, rfl⟩

/-- While BUSY a host write of LEN or of BUFMEM is refused (R105, R107). -/
theorem HostStep.sameBuffer_of_busy {s t : State} {i : Instr} (hst : HostStep s i t)
    (hb : s.fsm ≠ .idle) : SameBuffer s t := by
  cases hst with
  | start v => exact { start_sameBuffer (setIe v s) with }
  | len _ hf => exact absurd hf hb
  | store _ _ hf => exact absurd hf hb
  | _ => exact ⟨rfl, rfl, rfl⟩

end Sys2Proof.Machine

namespace Sys2Proof.Proofs

open Sys2Proof.Machine

/-- Settles O49: the scanner writes neither, the host is refused while BUSY, and the resets are excluded. -/
theorem bufferAndLengthAreFixedWhileBusy : Obligations.BufferAndLengthAreFixedWhileBusy := by
  intro s t hb hr hst
  suffices h : SameBuffer s t from
    ⟨h.bufmem, h.written, h.len, noStepChangesTheParameters s t hst⟩
  rcases step_cases hst with ⟨_, hscan⟩ | ⟨_, rest, _, _, rfl⟩ | ⟨_, rest, _, _, _, _, hhost⟩ |
    ⟨rest, hi, _⟩ | ⟨rest, hi, _⟩
  · exact { hscan.sameBuffer with }
  · exact ⟨rfl, rfl, rfl⟩
  · exact { hhost.sameBuffer_of_busy (State.busy_eq_true.1 hb) with }
  · exact absurd hi (hr rest).1
  · exact absurd hi (hr rest).2

end Sys2Proof.Proofs
end

section
/-! PROOFS. The scanner reads below LEN only (spec/20_memory.md R56): replacing the rest of BUFMEM commutes with
its turn. -/

namespace Sys2Proof.Machine

open Sys2Proof.Claims

/-- The state with other bytes in BUFMEM and other written offsets. -/
def withBuffer (m : Memory) (w : Offsets) (s : State) : State := { s with bufmem := m, written := w }

/-- The scanner may use the same bytes below LEN after the replacement as before it. -/
def AgreesBelowLen (m : Memory) (w : Offsets) (s : State) : Prop :=
  ∀ a, a < s.len.toNat → (withBuffer m w s).loadedByte a = s.loadedByte a

@[simp] theorem withBuffer_fsm (m : Memory) (w : Offsets) (s : State) :
    (withBuffer m w s).fsm = s.fsm := rfl
@[simp] theorem withBuffer_len (m : Memory) (w : Offsets) (s : State) :
    (withBuffer m w s).len = s.len := rfl
@[simp] theorem withBuffer_pos (m : Memory) (w : Offsets) (s : State) :
    (withBuffer m w s).pos = s.pos := rfl
@[simp] theorem roomForId3v2_withBuffer (m : Memory) (w : Offsets) (s : State) :
    (withBuffer m w s).roomForId3v2 = s.roomForId3v2 := rfl
@[simp] theorem roomForId3v1_withBuffer (m : Memory) (w : Offsets) (s : State) :
    (withBuffer m w s).roomForId3v1 = s.roomForId3v1 := rfl
@[simp] theorem guard_withBuffer (m : Memory) (w : Offsets) (s : State) :
    (withBuffer m w s).guard = s.guard := rfl
@[simp] theorem outOfBounds_withBuffer (m : Memory) (w : Offsets) (s : State) :
    (withBuffer m w s).outOfBounds = s.outOfBounds := rfl

/-- A valid candidate's step does not look at BUFMEM. -/
theorem frameStep_withBuffer (m : Memory) (w : Offsets) (bri : BitVec 4) (sri : BitVec 2) (pad : BitVec 1)
    (s : State) : frameStep bri sri pad (withBuffer m w s) = withBuffer m w (frameStep bri sri pad s) := by
  simp only [frameStep, apply_ite releaseHdr, apply_ite (withBuffer m w)]
  rfl

/-- No candidate row looks at BUFMEM. -/
theorem exec_decodeHdr_withBuffer (m : Memory) (w : Offsets) (l : HdrLayout) (c : Word) (s : State) :
    exec (decodeHdr l c) (withBuffer m w s) =
      mapNext (withBuffer m w) (exec (decodeHdr l c) s) := by
  cases hv : (hdrFields l c).valid with
  | false =>
    have hmeaning := (decodeHdr_invalid hv).meaning
    rw [hmeaning, hmeaning]
    rfl
  | true =>
    obtain ⟨-, -, -, hmeaning, -⟩ := decodeHdr_valid hv
    rw [hmeaning, hmeaning, frameStep_withBuffer]
    rfl

theorem execId3v2Mark_withBuffer (b6 b7 b8 b9 : Byte) (m : Memory) (w : Offsets) (s : State) :
    execId3v2Mark b6 b7 b8 b9 (withBuffer m w s) =
      mapNext (withBuffer m w) (execId3v2Mark b6 b7 b8 b9 s) := by
  simp only [execId3v2Mark, apply_ite (mapNext (withBuffer m w))]
  rfl

theorem execId3v1Mark_withBuffer (m : Memory) (w : Offsets) (s : State) :
    execId3v1Mark (withBuffer m w s) = mapNext (withBuffer m w) (execId3v1Mark s) := by
  simp only [execId3v1Mark, apply_ite (mapNext (withBuffer m w))]
  rfl

section Turns

variable {m : Memory} {w : Offsets} {s : State} (h : AgreesBelowLen m w s)
include h

/-- The bytes 0 to 2 and 6 to 9 lie below a LEN of 10 or more. -/
theorem leadTagTurn_withBuffer :
    runTurn (leadTagTurn (withBuffer m w s)) =
      mapNext (withBuffer m w) (runTurn (leadTagTurn s)) := by
  unfold leadTagTurn
  rw [roomForId3v2_withBuffer]
  split
  · next hl =>
    rw [State.roomForId3v2_eq_true] at hl
    rw [bufRead3_congr (t := s) (fun k hk => h (0 + k) (by omega)) rfl,
      bufRead4_congr (t := s) (fun k hk => h (6 + k) (by omega)) rfl]
    split
    · rfl
    · split
      · split
        · rfl
        · exact execId3v2Mark_withBuffer _ _ _ _ m w s
      · rfl
  · rfl

/-- The bytes LEN − 128 to LEN − 126 lie below LEN. -/
theorem trailTagTurn_withBuffer :
    runTurn (trailTagTurn (withBuffer m w s)) =
      mapNext (withBuffer m w) (runTurn (trailTagTurn s)) := by
  unfold trailTagTurn
  rw [roomForId3v1_withBuffer, withBuffer_len]
  split
  · next hl =>
    rw [State.roomForId3v1_eq_true] at hl
    rw [bufRead3_congr (t := s) (fun k hk => h (s.len.toNat - 128 + k) (by omega)) rfl]
    split
    · rfl
    · split
      · exact execId3v1Mark_withBuffer m w s
      · rfl
  · rfl

/-- The bounds test (R207) keeps the candidate's four bytes below LEN. -/
theorem scanTurn_withBuffer :
    runTurn (scanTurn (withBuffer m w s)) = mapNext (withBuffer m w) (runTurn (scanTurn s)) := by
  unfold scanTurn
  rw [guard_withBuffer, outOfBounds_withBuffer, withBuffer_pos]
  split
  · split
    · rfl
    · next hl =>
      rw [State.outOfBounds_eq_true] at hl
      rw [memRead4_congr (t := s) (fun k hk => h (s.pos.toNat + k) (by omega)) rfl]
      split
      · rfl
      · exact exec_decodeHdr_withBuffer m w _ _ (latchHdr _ s)
  · rfl

theorem scannerTurn_withBuffer :
    runTurn (scannerTurn (withBuffer m w s)) = mapNext (withBuffer m w) (runTurn (scannerTurn s)) := by
  unfold scannerTurn
  rw [withBuffer_fsm]
  split
  · rfl
  · exact leadTagTurn_withBuffer h
  · exact trailTagTurn_withBuffer h
  · exact scanTurn_withBuffer h
  · rfl

/-- The scanner's step sees nothing of BUFMEM at LEN or above (R56). -/
theorem step_withBuffer (hm : ScannerMoves s) :
    step (withBuffer m w s) = mapNext (withBuffer m w) (step s) := by
  rw [step_scanner hm, step_scanner (s := withBuffer m w s) hm]
  exact scannerTurn_withBuffer (s := beginTurn s.inputs.tail s) h

end Turns

end Sys2Proof.Machine

namespace Sys2Proof.Proofs

open Sys2Proof.Machine

/-- Settles O52: every read of a turn lies below LEN, so the replacement passes through the step. -/
theorem scannerReadsOnlyTheBuffer : Obligations.ScannerReadsOnlyTheBuffer := by
  intro s m w hm h
  have hstep : step { s with bufmem := m, written := w } = mapNext (withBuffer m w) (step s) :=
    step_withBuffer h hm
  refine ⟨fun t ht => ?_, fun f hf => ?_⟩
  · rw [hstep, ht]
    rfl
  · rw [hstep, hf]
    rfl

end Sys2Proof.Proofs
end

section
/-! PROOFS. The bytes that exist, the accesses outside both windows, and the bytes a reset leaves to the scanner
(spec/20_memory.md R50, R58, R66). -/

namespace Sys2Proof.Machine

open Sys2Proof.Claims

theorem exec_bufWr_of_noSuchByte {s : State} {off : Word} (b : Byte)
    (h : s.cfg.bufMax.toNat ≤ off.toNat) : exec (.bufWr off b) s = .fault (.noSuchByte off.toNat) :=
  if_neg (Nat.not_lt.2 h)

theorem exec_bufRd_of_noSuchByte {s : State} {off : Word} (h : s.cfg.bufMax.toNat ≤ off.toNat) :
    exec (.bufRd off) s = .fault (.noSuchByte off.toNat) :=
  if_neg (Nat.not_lt.2 h)

/-- A decoded access stops in no state with these parameters. -/
theorem exec_ne_fault_of_decodeAccess {c : Config} {a : BusAccess} {i : Instr} {s : State} (f : Fault)
    (h : decodeAccess c a = .ok i) (hc : s.cfg = c) : exec i s ≠ .fault f := by
  obtain ⟨t, ht, -⟩ := decodeAccess_cases h hc
  rw [ht]
  exact nofun

/-- An address outside both windows decodes to no access of this block (R58). -/
theorem decodeAccess_of_not_owns {c : Config} {a : BusAccess} (h : c.owns a.addr = false) :
    decodeAccess c a = .error .outsideWindows := by
  rw [Config.owns, Bool.or_eq_false_iff, decide_eq_false_iff_not, decide_eq_false_iff_not] at h
  obtain ⟨hreg, hbuf⟩ := h
  rw [decodeAccess, if_neg hreg, if_neg hbuf]

theorem step_access_outside {s : State} {a : BusAccess} {rest : List Input}
    (hi : s.inputs = .access a :: rest) (hd : decodeAccess s.cfg a = .error .outsideWindows) :
    step s = .next (beginTurn rest s) := by
  simp [step, turn, hi, accessTurn, hd, runTurn]

theorem step_rst {s : State} {rest : List Input} (hi : s.inputs = .rst :: rest) :
    step s = .next (assertRst (beginTurn rest s)) := by
  simp [step, turn, hi, runTurn]

theorem step_powerUp {s : State} {rest : List Input} (hi : s.inputs = .powerUp :: rest) :
    step s = .next (powerUp (beginTurn rest s)) := by
  simp [step, turn, hi, runTurn]

end Sys2Proof.Machine

namespace Sys2Proof.Proofs

open Sys2Proof.Machine Sys2Proof.Claims

/-- Settles O41: the meanings stop on an offset that does not exist, and a decoded access never stops. -/
theorem bufferAccessStaysInsideTheCapacity : Obligations.BufferAccessStaysInsideTheCapacity := by
  refine ⟨fun c a off b => ⟨fun hd => ?_, fun hd => ?_⟩,
    fun s off b h => ⟨exec_bufWr_of_noSuchByte b h, exec_bufRd_of_noSuchByte h⟩⟩
  · refine Nat.lt_of_not_le fun hle => ?_
    exact exec_ne_fault_of_decodeAccess _ hd (s := { State.reset with cfg := c }) rfl
      (exec_bufWr_of_noSuchByte b hle)
  · refine Nat.lt_of_not_le fun hle => ?_
    exact exec_ne_fault_of_decodeAccess _ hd (s := { State.reset with cfg := c }) rfl
      (exec_bufRd_of_noSuchByte hle)

/-- Settles O45: the access decodes to nothing, so its turn ends where it began. -/
theorem accessOutsideTheWindowsChangesNothing : Obligations.AccessOutsideTheWindowsChangesNothing := by
  intro s a rest hi howns
  rw [step_access_outside hi (decodeAccess_of_not_owns howns), taken_eq_beginTurn, hi, List.tail_cons]

/-- Settles O60: after either reset no byte is loaded, and RST keeps what the host reads. -/
theorem resetLeavesNoByteForTheScanner : Obligations.ResetLeavesNoByteForTheScanner := by
  intro s rest
  refine ⟨fun hi => ⟨_, step_rst hi, fun a => ?_, fun a ha => ?_⟩,
    fun hi => ⟨_, step_powerUp hi, fun a ha => ?_⟩⟩
  · rw [hostByte_assertRst, hostByte_beginTurn]
  · exact bufRead_of_missing ⟨ha, loadedByte_assertRst _ a⟩
  · exact bufRead_of_missing ⟨ha, loadedByte_powerUp _ a⟩

end Sys2Proof.Proofs
end

section
/-! PROOFS. Decode after encode (spec/30_encoding.md R72 to R83): what the decoder reads out of each form the
encoder writes, one lemma per form, and the round trip. -/

namespace Sys2Proof

/-! ## FRAME rows (R76) -/

theorem decode_hdr32 {c : Config} {l : HdrLayout} {w : Word} {i : Instr} (hl : c.hdrLayout = l)
    (h : decodeHdr l w = i) : decode c (.hdr32 w) = .ok i := by
  subst hl
  subst h
  rfl

/-- A FRAME row under MPEG_STD is the frame table's row of its indices, and they are legal. -/
theorem frameMpegStd_of_frameRow {i : Instr} {b s : Nat} (h : i.frameRow = some (.mpegStd, b, s)) :
    ∃ prot pad low, frameMpegStd (BitVec.ofNat 4 b) (BitVec.ofNat 2 s) prot pad low = some i ∧
      BitVec.ofNat 4 b ≠ 0#4 ∧ BitVec.ofNat 4 b ≠ 15#4 ∧ BitVec.ofNat 2 s ≠ 3#2 := by
  cases i <;> cases h <;> exact ⟨_, _, _, rfl, by decide, by decide, by decide⟩

/-- A FRAME row under DOC_TABLE is the frame table's row of its indices, and they are legal. -/
theorem frameDocTable_of_frameRow {i : Instr} {b s : Nat} (h : i.frameRow = some (.docTable, b, s)) :
    ∃ pad low, frameDocTable (BitVec.ofNat 4 b) (BitVec.ofNat 2 s) pad low = some i ∧
      BitVec.ofNat 4 b ≠ 0#4 ∧ BitVec.ofNat 4 b ≠ 15#4 ∧ BitVec.ofNat 2 s ≠ 3#2 := by
  cases i <;> cases h <;> exact ⟨_, _, rfl, by decide, by decide, by decide⟩

/-- The sync, version and layer of a packed word are legal, so its row lies in the indices. -/
theorem decodeHdr_packMpegStd (prot : BitVec 1) (bri : BitVec 4) (sri : BitVec 2) (pad : BitVec 1)
    (low : BitVec 9) :
    decodeHdr .mpegStd (packMpegStd prot bri sri pad low) =
      decodeMpegStd (packMpegStd prot bri sri pad low) := by
  simp [decodeHdr, hdrFields_packMpegStd]

theorem decodeHdr_packDocTable (bri : BitVec 4) (sri : BitVec 2) (pad : BitVec 1) (low : BitVec 10) :
    decodeHdr .docTable (packDocTable bri sri pad low) =
      decodeDocTable (packDocTable bri sri pad low) := by
  simp [decodeHdr, hdrFields_packDocTable]

/-- The encoding of a FRAME row decodes to that row. -/
theorem decode_encode_of_frameRow {c : Config} {i : Instr} {l : HdrLayout} {b s : Nat}
    (h : i.frameRow = some (l, b, s)) (hwf : i.WellFormed c = true) : decode c (encode c i) = .ok i := by
  cases l with
  | mpegStd =>
    obtain ⟨prot, pad, low, hi, h0, h15, h3⟩ := frameMpegStd_of_frameRow h
    obtain ⟨henc, -, hlayout, -, -⟩ := frameMpegStd_spec hi
    rw [hlayout, beq_iff_eq] at hwf
    rw [henc]
    refine decode_hdr32 hwf ?_
    rw [decodeHdr_packMpegStd]
    simp only [decodeMpegStd, hdrFields_packMpegStd, packMpegStd_prot, packMpegStd_low, h0, h15, h3, hi,
      if_false, Option.getD_some]
  | docTable =>
    obtain ⟨pad, low, hi, h0, h15, h3⟩ := frameDocTable_of_frameRow h
    obtain ⟨henc, -, hlayout, -, -⟩ := frameDocTable_spec hi
    rw [hlayout, beq_iff_eq] at hwf
    rw [henc]
    refine decode_hdr32 hwf ?_
    rw [decodeHdr_packDocTable]
    simp only [decodeDocTable, hdrFields_packDocTable, packDocTable_low, h0, h15, h3, hi, if_false,
      Option.getD_some]

/-! ## Named sub-cases of rejection (R77) -/

theorem decodeHdr_rejSync {sync : BitVec 11} (l : HdrLayout) (rest : BitVec 21) (h : sync ≠ 0x7FF#11) :
    decodeHdr l (sync ++ rest) = .rejSync sync rest := by
  have hsync : (hdrFields l (sync ++ rest)).sync = sync := by
    cases l <;> exact BitVec.extractLsb'_append_eq_left
  have hrest : (sync ++ rest : Word).extractLsb' 0 21 = rest := BitVec.extractLsb'_append_eq_right
  simp only [decodeHdr, hsync, hrest, h, ne_eq, not_false_eq_true, if_true]

theorem versionWord_toNat (version : BitVec 2) (rest : BitVec 19) :
    (0x7FF#11 ++ version ++ rest : Word).toNat =
      0x7FF * 2 ^ 21 + version.toNat * 2 ^ 19 + rest.toNat := by
  have h : (0x7FF#11 ++ version ++ rest : Word).toNat = _ := append_toNat (0x7FF#11 ++ version) rest
  rw [h, append_toNat, BitVec.toNat_ofNat]
  omega

/-- The fields of a word with a legal sync. -/
theorem hdrFields_versionWord (l : HdrLayout) (version : BitVec 2) (rest : BitVec 19) :
    (hdrFields l (0x7FF#11 ++ version ++ rest)).sync = 0x7FF#11 ∧
      (hdrFields l (0x7FF#11 ++ version ++ rest)).version = version := by
  have := version.isLt; have := rest.isLt
  cases l <;>
    · simp only [hdrFields, eq_iff_toNat_eq, field_toNat, versionWord_toNat, BitVec.toNat_ofNat]
      omega

/-- A word with a legal sync and another version than 3 decodes by its version. `simp` must not join the
literal fields into one, or the fields are not those of the lemma. -/
theorem decodeHdr_versionWord (l : HdrLayout) (rest : BitVec 19) :
    decodeHdr l (0x7FF#11 ++ 0#2 ++ rest) = .rejVersion0 rest ∧
      decodeHdr l (0x7FF#11 ++ 1#2 ++ rest) = .rejVersion1 rest ∧
      decodeHdr l (0x7FF#11 ++ 2#2 ++ rest) = .rejVersion2 rest := by
  have hrest : ∀ version : BitVec 2, (0x7FF#11 ++ version ++ rest : Word).extractLsb' 0 19 = rest :=
    fun _ => BitVec.extractLsb'_append_eq_right
  simp [decodeHdr, hdrFields_versionWord, hrest, -BitVec.reduceAppend]

theorem layerWord_toNat (layer : BitVec 2) (rest : BitVec 17) :
    (0x7FF#11 ++ 3#2 ++ layer ++ rest : Word).toNat =
      0x1FFF * 2 ^ 19 + layer.toNat * 2 ^ 17 + rest.toNat := by
  have h : (0x7FF#11 ++ 3#2 ++ layer ++ rest : Word).toNat = _ :=
    append_toNat (0x7FF#11 ++ 3#2 ++ layer) rest
  rw [h]
  simp only [append_toNat, BitVec.toNat_ofNat]
  omega

/-- The fields of a word with a legal sync and version. -/
theorem hdrFields_layerWord (l : HdrLayout) (layer : BitVec 2) (rest : BitVec 17) :
    (hdrFields l (0x7FF#11 ++ 3#2 ++ layer ++ rest)).sync = 0x7FF#11 ∧
      (hdrFields l (0x7FF#11 ++ 3#2 ++ layer ++ rest)).version = 3#2 ∧
      (hdrFields l (0x7FF#11 ++ 3#2 ++ layer ++ rest)).layer = layer := by
  have := layer.isLt; have := rest.isLt
  cases l <;>
    · simp only [hdrFields, eq_iff_toNat_eq, field_toNat, layerWord_toNat, BitVec.toNat_ofNat]
      omega

/-- A word with a legal sync and version and another layer than 1 decodes by its layer. -/
theorem decodeHdr_layerWord (l : HdrLayout) (rest : BitVec 17) :
    decodeHdr l (0x7FF#11 ++ 3#2 ++ 0#2 ++ rest) = .rejLayer0 rest ∧
      decodeHdr l (0x7FF#11 ++ 3#2 ++ 2#2 ++ rest) = .rejLayer2 rest ∧
      decodeHdr l (0x7FF#11 ++ 3#2 ++ 3#2 ++ rest) = .rejLayer3 rest := by
  have hrest : ∀ layer : BitVec 2,
      (0x7FF#11 ++ 3#2 ++ layer ++ rest : Word).extractLsb' 0 17 = rest :=
    fun _ => BitVec.extractLsb'_append_eq_right
  simp [decodeHdr, hdrFields_layerWord, hrest, -BitVec.reduceAppend]

/-! A word that is rejected by an index is a packed word. -/

theorem bitrateWord_eq_packMpegStd (prot : BitVec 1) (bri : BitVec 4) (rest : BitVec 12) :
    (0x7FF#11 ++ 3#2 ++ 1#2 ++ prot ++ bri ++ rest : Word) =
      packMpegStd prot bri (rest.extractLsb' 10 2) (rest.extractLsb' 9 1) (rest.extractLsb' 0 9) := by
  have h : (0x7FF#11 ++ 3#2 ++ 1#2 ++ prot ++ bri ++ rest : Word).toNat = _ :=
    append_toNat (0x7FF#11 ++ 3#2 ++ 1#2 ++ prot ++ bri) rest
  rw [eq_iff_toNat_eq, h, packMpegStd_toNat]
  simp only [append_toNat, field_toNat, BitVec.toNat_ofNat]
  omega

theorem srateWord_eq_packMpegStd (prot : BitVec 1) (bri : BitVec 4) (sri : BitVec 2) (rest : BitVec 10) :
    (0x7FF#11 ++ 3#2 ++ 1#2 ++ prot ++ bri ++ sri ++ rest : Word) =
      packMpegStd prot bri sri (rest.extractLsb' 9 1) (rest.extractLsb' 0 9) := by
  have h : (0x7FF#11 ++ 3#2 ++ 1#2 ++ prot ++ bri ++ sri ++ rest : Word).toNat = _ :=
    append_toNat (0x7FF#11 ++ 3#2 ++ 1#2 ++ prot ++ bri ++ sri) rest
  rw [eq_iff_toNat_eq, h, packMpegStd_toNat]
  simp only [append_toNat, field_toNat, BitVec.toNat_ofNat]
  omega

theorem bitrateWord_eq_packDocTable (bri : BitVec 4) (rest : BitVec 13) :
    (0x7FF#11 ++ 3#2 ++ 1#2 ++ bri ++ rest : Word) =
      packDocTable bri (rest.extractLsb' 11 2) (rest.extractLsb' 10 1) (rest.extractLsb' 0 10) := by
  have h : (0x7FF#11 ++ 3#2 ++ 1#2 ++ bri ++ rest : Word).toNat = _ :=
    append_toNat (0x7FF#11 ++ 3#2 ++ 1#2 ++ bri) rest
  rw [eq_iff_toNat_eq, h, packDocTable_toNat]
  simp only [append_toNat, field_toNat, BitVec.toNat_ofNat]
  omega

theorem srateWord_eq_packDocTable (bri : BitVec 4) (sri : BitVec 2) (rest : BitVec 11) :
    (0x7FF#11 ++ 3#2 ++ 1#2 ++ bri ++ sri ++ rest : Word) =
      packDocTable bri sri (rest.extractLsb' 10 1) (rest.extractLsb' 0 10) := by
  have h : (0x7FF#11 ++ 3#2 ++ 1#2 ++ bri ++ sri ++ rest : Word).toNat = _ :=
    append_toNat (0x7FF#11 ++ 3#2 ++ 1#2 ++ bri ++ sri) rest
  rw [eq_iff_toNat_eq, h, packDocTable_toNat]
  simp only [append_toNat, field_toNat, BitVec.toNat_ofNat]
  omega

/-- A bitrate index of 0 or 15 under MPEG_STD. -/
theorem decodeHdr_bitrateWord_mpegStd (prot : BitVec 1) (rest : BitVec 12) :
    decodeHdr .mpegStd (0x7FF#11 ++ 3#2 ++ 1#2 ++ prot ++ 0#4 ++ rest) = .rejFreeMpegStd prot rest ∧
      decodeHdr .mpegStd (0x7FF#11 ++ 3#2 ++ 1#2 ++ prot ++ 15#4 ++ rest) =
        .rejBr15MpegStd prot rest := by
  have hrest : ∀ bri : BitVec 4,
      (0x7FF#11 ++ 3#2 ++ 1#2 ++ prot ++ bri ++ rest : Word).extractLsb' 0 12 = rest :=
    fun _ => BitVec.extractLsb'_append_eq_right
  simp only [bitrateWord_eq_packMpegStd] at hrest ⊢
  simp [decodeHdr_packMpegStd, decodeMpegStd, hdrFields_packMpegStd, packMpegStd_prot, hrest]

/-- A sample-rate index of 3 under MPEG_STD, with a legal bitrate index. -/
theorem decodeHdr_srateWord_mpegStd (prot : BitVec 1) {bri : BitVec 4} (rest : BitVec 10)
    (h0 : bri ≠ 0#4) (h15 : bri ≠ 15#4) :
    decodeHdr .mpegStd (0x7FF#11 ++ 3#2 ++ 1#2 ++ prot ++ bri ++ 3#2 ++ rest) =
      .rejSr3MpegStd prot bri rest := by
  have hrest : (0x7FF#11 ++ 3#2 ++ 1#2 ++ prot ++ bri ++ 3#2 ++ rest : Word).extractLsb' 0 10 = rest :=
    BitVec.extractLsb'_append_eq_right
  rw [srateWord_eq_packMpegStd] at hrest ⊢
  simp [decodeHdr_packMpegStd, decodeMpegStd, hdrFields_packMpegStd, packMpegStd_prot, hrest, h0, h15]

/-- A bitrate index of 0 or 15 under DOC_TABLE. -/
theorem decodeHdr_bitrateWord_docTable (rest : BitVec 13) :
    decodeHdr .docTable (0x7FF#11 ++ 3#2 ++ 1#2 ++ 0#4 ++ rest) = .rejFreeDocTable rest ∧
      decodeHdr .docTable (0x7FF#11 ++ 3#2 ++ 1#2 ++ 15#4 ++ rest) = .rejBr15DocTable rest := by
  have hrest : ∀ bri : BitVec 4,
      (0x7FF#11 ++ 3#2 ++ 1#2 ++ bri ++ rest : Word).extractLsb' 0 13 = rest :=
    fun _ => BitVec.extractLsb'_append_eq_right
  simp only [bitrateWord_eq_packDocTable] at hrest ⊢
  simp [decodeHdr_packDocTable, decodeDocTable, hdrFields_packDocTable, hrest]

/-- A sample-rate index of 3 under DOC_TABLE, with a legal bitrate index. -/
theorem decodeHdr_srateWord_docTable {bri : BitVec 4} (rest : BitVec 11) (h0 : bri ≠ 0#4)
    (h15 : bri ≠ 15#4) :
    decodeHdr .docTable (0x7FF#11 ++ 3#2 ++ 1#2 ++ bri ++ 3#2 ++ rest) = .rejSr3DocTable bri rest := by
  have hrest : (0x7FF#11 ++ 3#2 ++ 1#2 ++ bri ++ 3#2 ++ rest : Word).extractLsb' 0 11 = rest :=
    BitVec.extractLsb'_append_eq_right
  rw [srateWord_eq_packDocTable] at hrest ⊢
  simp [decodeHdr_packDocTable, decodeDocTable, hdrFields_packDocTable, hrest, h0, h15]

/-! ## Host accesses (R82, R83) -/

theorem decode_bus {c : Config} {a : BusAccess} {i : Instr} (h : decodeAccess c a = .ok i) :
    decode c (.bus a) = .ok i := by
  simp [decode, h]

/-- An access at an offset of the register window is decoded by that offset. -/
theorem decodeAccess_regWindow (c : Config) (dir : Dir) {off : Nat} (width : Nat) (v : Word)
    (h : off < 0x1000) :
    decodeAccess c { addr := c.regBase + off, dir := dir, width := width, data := v } =
      .ok (decodeReg dir (BitVec.ofNat 12 off) width v) := by
  simp [decodeAccess, Config.regWindow, h]

theorem decodeAccess_regAccess (c : Config) (dir : Dir) {off : Nat} (v : Word) (h : off < 0x1000) :
    decodeAccess c (regAccess c dir off v) = .ok (decodeReg dir (BitVec.ofNat 12 off) 32 v) :=
  decodeAccess_regWindow c dir 32 v h

theorem decodeReg_of_malformed {off : BitVec 12} {width : Nat} (dir : Dir) (v : Word)
    (h : width ≠ 32 ∨ off.toNat % 4 ≠ 0) : decodeReg dir off width v = .badReg dir off width v :=
  if_pos h

/-- The reserved offsets lie past the named registers (R29, R82). -/
theorem decodeReg_of_reservedOffset {off : BitVec 12} (v : Word) (h : reservedOffset off = true) :
    decodeReg .read off 32 v = .rdRsvd off ∧ decodeReg .write off 32 v = .wrRsvd off v := by
  simp only [reservedOffset, Bool.and_eq_true, beq_iff_eq, decide_eq_true_eq] at h
  obtain ⟨haligned, hge⟩ := h
  simp only [decodeReg, haligned, ne_eq, not_true_eq_false, or_self, if_false]
  constructor
  · unfold decodeRegRead
    split
    case h_10 => rfl
    all_goals omega
  · unfold decodeRegWrite
    split
    case h_10 => rfl
    all_goals omega

/-- The instruction of a byte access (R83). -/
def byteInstr (dir : Dir) (off : Word) (b : Byte) : Instr :=
  match dir with
  | .read => .bufRd off
  | .write => .bufWr off b

/-- The address of a byte that exists lies in the buffer window only (R50, decision D3). -/
theorem decodeAccess_bufAccess {c : Config} (hc : c.wf = true) (dir : Dir) {off : Word} (b : Byte)
    (h : off.toNat < c.bufMax.toNat) :
    decodeAccess c (bufAccess c dir off b) = .ok (byteInstr dir off b) := by
  simp only [Config.wf, Bool.or_eq_true, decide_eq_true_eq] at hc
  have hreg : ¬ (c.regBase ≤ c.bufBase + off.toNat ∧
      c.bufBase + off.toNat < c.regBase + Config.regWindow) := by omega
  have hb : (b.setWidth 32).setWidth 8 = b := by simp
  cases dir <;> simp [decodeAccess, bufAccess, byteInstr, hreg, h, decodeBuf, hb]

end Sys2Proof

namespace Sys2Proof.Proofs

/-- Settles O7: the FRAME rows by the frame table, and each other form by the lemma about it. -/
theorem decodeOfEncodeIsTheInstruction : Obligations.DecodeOfEncodeIsTheInstruction := by
  intro c i hc hwf hreject
  cases hrow : i.frameRow with
  | some r => exact decode_encode_of_frameRow hrow hwf
  | none =>
    cases i
    case reject w => exact absurd rfl (hreject w)
    case rejSync sync rest => exact decode_hdr32 rfl (decodeHdr_rejSync _ rest (bne_iff_ne.1 hwf))
    case rejVersion0 rest =>
      obtain ⟨h, -, -⟩ := decodeHdr_versionWord c.hdrLayout rest
      exact decode_hdr32 rfl h
    case rejVersion1 rest =>
      obtain ⟨-, h, -⟩ := decodeHdr_versionWord c.hdrLayout rest
      exact decode_hdr32 rfl h
    case rejVersion2 rest =>
      obtain ⟨-, -, h⟩ := decodeHdr_versionWord c.hdrLayout rest
      exact decode_hdr32 rfl h
    case rejLayer0 rest =>
      obtain ⟨h, -, -⟩ := decodeHdr_layerWord c.hdrLayout rest
      exact decode_hdr32 rfl h
    case rejLayer2 rest =>
      obtain ⟨-, h, -⟩ := decodeHdr_layerWord c.hdrLayout rest
      exact decode_hdr32 rfl h
    case rejLayer3 rest =>
      obtain ⟨-, -, h⟩ := decodeHdr_layerWord c.hdrLayout rest
      exact decode_hdr32 rfl h
    case rejFreeMpegStd prot rest =>
      exact decode_hdr32 (beq_iff_eq.1 hwf) (decodeHdr_bitrateWord_mpegStd prot rest).1
    case rejBr15MpegStd prot rest =>
      exact decode_hdr32 (beq_iff_eq.1 hwf) (decodeHdr_bitrateWord_mpegStd prot rest).2
    case rejSr3MpegStd prot bri rest =>
      simp only [Instr.WellFormed, Bool.and_eq_true, beq_iff_eq, bne_iff_ne] at hwf
      obtain ⟨⟨hl, h0⟩, h15⟩ := hwf
      exact decode_hdr32 hl (decodeHdr_srateWord_mpegStd prot rest h0 h15)
    case rejFreeDocTable rest =>
      exact decode_hdr32 (beq_iff_eq.1 hwf) (decodeHdr_bitrateWord_docTable rest).1
    case rejBr15DocTable rest =>
      exact decode_hdr32 (beq_iff_eq.1 hwf) (decodeHdr_bitrateWord_docTable rest).2
    case rejSr3DocTable bri rest =>
      simp only [Instr.WellFormed, Bool.and_eq_true, beq_iff_eq, bne_iff_ne] at hwf
      obtain ⟨⟨hl, h0⟩, h15⟩ := hwf
      exact decode_hdr32 hl (decodeHdr_srateWord_docTable rest h0 h15)
    case id3v2Mark => rfl
    case id3v1Mark => rfl
    case rdCtrl | rdStatus | rdLen | rdCount | rdStartPos | rdEndBound | rdPos | rdCfg | rdBufmax |
        wrCtrl | wrStatus | wrLen | wrRoCount | wrRoStartPos | wrRoEndBound | wrRoPos | wrRoCfg |
        wrRoBufmax =>
      exact decode_bus (decodeAccess_regAccess c _ _ (by decide))
    case rdRsvd off =>
      refine decode_bus ((decodeAccess_regAccess c _ _ off.isLt).trans ?_)
      rw [BitVec.ofNat_toNat, BitVec.setWidth_eq, (decodeReg_of_reservedOffset _ hwf).1]
    case wrRsvd off v =>
      refine decode_bus ((decodeAccess_regAccess c _ _ off.isLt).trans ?_)
      rw [BitVec.ofNat_toNat, BitVec.setWidth_eq, (decodeReg_of_reservedOffset _ hwf).2]
    case badReg dir off width v =>
      have hbad : width ≠ 32 ∨ off.toNat % 4 ≠ 0 := by simpa [Instr.WellFormed] using hwf
      refine decode_bus ((decodeAccess_regWindow c _ _ _ off.isLt).trans ?_)
      rw [BitVec.ofNat_toNat, BitVec.setWidth_eq, decodeReg_of_malformed dir v hbad]
    case bufWr off b => exact decode_bus (decodeAccess_bufAccess hc .write b (of_decide_eq_true hwf))
    case bufRd off => exact decode_bus (decodeAccess_bufAccess hc .read 0 (of_decide_eq_true hwf))
    all_goals cases hrow

end Sys2Proof.Proofs
end

section
/-! PROOFS. The classes of a candidate word (spec/30_encoding.md R76 to R78): each is told by the six fields of
the header decoder, which the class's mask and match see and the uninterpreted bits do not touch. -/

namespace Sys2Proof

open Sys2Proof.Claims

/-- A candidate has a FRAME row exactly when V holds (R165), and then that of its indices. -/
theorem frameRow_decodeHdr_eq_some_iff {l : HdrLayout} {w : Word} {b s : Nat} :
    (decodeHdr l w).frameRow = some (l, b, s) ↔
      (hdrFields l w).valid = true ∧ (hdrFields l w).bri.toNat = b ∧ (hdrFields l w).sri.toNat = s := by
  cases hv : (hdrFields l w).valid with
  | false => simp [(decodeHdr_invalid hv).noFrame]
  | true =>
    obtain ⟨-, hrow, -⟩ := decodeHdr_valid hv
    simp [hrow]

theorem frameRow_decodeHdr_eq_none_iff {l : HdrLayout} {w : Word} :
    (decodeHdr l w).frameRow = none ↔ (hdrFields l w).valid = false := by
  cases hv : (hdrFields l w).valid with
  | false => simp [(decodeHdr_invalid hv).noFrame]
  | true =>
    obtain ⟨-, hrow, -⟩ := decodeHdr_valid hv
    simp [hrow]

/-! ## Mask and match (R76) -/

theorem frameMatch_mpegStd_toNat {b s : Nat} (hb : b ≤ 14) (hs : s ≤ 2) :
    (frameMatch .mpegStd b s).toNat = 0xFFFA0000 + b * 2 ^ 12 + s * 2 ^ 10 := by
  have table : ∀ b < 15, ∀ s < 3,
      (frameMatch .mpegStd b s).toNat = 0xFFFA0000 + b * 2 ^ 12 + s * 2 ^ 10 := by decide
  exact table b (by omega) s (by omega)

theorem frameMatch_docTable_toNat {b s : Nat} (hb : b ≤ 14) (hs : s ≤ 2) :
    (frameMatch .docTable b s).toNat = 0xFFFA0000 + b * 2 ^ 13 + s * 2 ^ 11 := by
  have table : ∀ b < 15, ∀ s < 3,
      (frameMatch .docTable b s).toNat = 0xFFFA0000 + b * 2 ^ 13 + s * 2 ^ 11 := by decide
  exact table b (by omega) s (by omega)

/-- V, field by field (R165). -/
theorem HdrFields.valid_eq_true {f : HdrFields} :
    f.valid = true ↔ f.sync.toNat = 0x7FF ∧ f.version.toNat = 3 ∧ f.layer.toNat = 1 ∧
      (1 ≤ f.bri.toNat ∧ f.bri.toNat ≤ 14) ∧ f.sri.toNat ≤ 2 := by
  have := f.bri.isLt; have := f.sri.isLt
  simp only [HdrFields.valid, Bool.and_eq_true, beq_iff_eq, bne_iff_ne, ne_eq, eq_iff_toNat_eq,
    BitVec.toNat_ofNat]
  omega

/-- Mask and match are V with the class's indices. -/
theorem frameMask_eq_frameMatch_iff {l : HdrLayout} {w : Word} {b s : Nat} (h1 : 1 ≤ b) (hb : b ≤ 14)
    (hs : s ≤ 2) :
    w &&& frameMask l = frameMatch l b s ↔
      (hdrFields l w).valid = true ∧ (hdrFields l w).bri.toNat = b ∧ (hdrFields l w).sri.toNat = s := by
  have := w.isLt
  rw [HdrFields.valid_eq_true, eq_iff_toNat_eq]
  cases l with
  | mpegStd =>
    simp only [frameMask_mpegStd_toNat, frameMatch_mpegStd_toNat hb hs, hdrFields, field_toNat]
    omega
  | docTable =>
    simp only [frameMask_docTable_toNat, frameMatch_docTable_toNat hb hs, hdrFields, field_toNat]
    omega

theorem mem_frameIndices {b s : Nat} : (b, s) ∈ frameIndices ↔ (1 ≤ b ∧ b ≤ 14) ∧ s ≤ 2 := by
  simp only [frameIndices, List.mem_flatMap, List.mem_map, List.mem_range, Prod.mk.injEq]
  constructor
  · rintro ⟨a, ha, t, ht, rfl, rfl⟩
    omega
  · rintro ⟨⟨h1, hb⟩, hs⟩
    exact ⟨b - 1, by omega, s, by omega, by omega, rfl⟩

/-- A candidate matches none of the 42 classes exactly when V does not hold. -/
theorem classReject_iff {l : HdrLayout} {w : Word} :
    classReject l w = true ↔ (hdrFields l w).valid = false := by
  simp only [classReject, List.all_eq_true, Prod.forall, bne_iff_ne, ← Bool.not_eq_true]
  constructor
  · intro h hv
    obtain ⟨-, -, -, hbri, hsri⟩ := HdrFields.valid_eq_true.1 hv
    exact h _ _ (mem_frameIndices.2 ⟨hbri, hsri⟩)
      ((frameMask_eq_frameMatch_iff hbri.1 hbri.2 hsri).2 ⟨hv, rfl, rfl⟩)
  · intro h b s hmem hmatch
    obtain ⟨⟨h1, hb⟩, hs⟩ := mem_frameIndices.1 hmem
    exact h ((frameMask_eq_frameMatch_iff h1 hb hs).1 hmatch).1

/-! ## Uninterpreted bits (R78) -/

/-- A mask with ones on a field keeps the field. -/
theorem extractLsb'_and_of_allOnes {n lo len : Nat} {x mask : BitVec n}
    (h : mask.extractLsb' lo len = BitVec.allOnes len) :
    (x &&& mask).extractLsb' lo len = x.extractLsb' lo len := by
  rw [BitVec.extractLsb'_and, h, BitVec.and_allOnes]

/-- The header decoder reads the bits of the mask only. -/
theorem hdrFields_and_readMask (l : HdrLayout) (w : Word) :
    hdrFields l (w &&& readMask l) = hdrFields l w := by
  cases l <;> simp (disch := decide) only [hdrFields, extractLsb'_and_of_allOnes]

/-- What a candidate does depends on its fields only. -/
theorem decodeHdr_congr {l : HdrLayout} {w v : Word} (h : hdrFields l w = hdrFields l v) (s : Machine.State) :
    (decodeHdr l w).frameRow = (decodeHdr l v).frameRow ∧
      Machine.exec (decodeHdr l w) s = Machine.exec (decodeHdr l v) s := by
  cases hw : (hdrFields l w).valid with
  | false =>
    have ew := decodeHdr_invalid hw
    have ev := decodeHdr_invalid (h ▸ hw)
    exact ⟨ew.noFrame.trans ev.noFrame.symm, (ew.meaning s).trans (ev.meaning s).symm⟩
  | true =>
    obtain ⟨-, roww, -, execw, -⟩ := decodeHdr_valid hw
    obtain ⟨-, rowv, -, execv, -⟩ := decodeHdr_valid (h ▸ hw)
    rw [roww, rowv, execw, execv, h]
    exact ⟨rfl, rfl⟩
end Sys2Proof

namespace Sys2Proof.Proofs

open Sys2Proof.Machine

/-- Settles O8: the row of a valid candidate and each named sub-case keep every bit. -/
theorem encodeOfDecodedCandidateIsTheWord : Obligations.EncodeOfDecodedCandidateIsTheWord := by
  intro c w
  cases hv : (hdrFields c.hdrLayout w).valid with
  | false => exact (decodeHdr_invalid hv).word c
  | true => exact (decodeHdr_valid hv).1 c

/-- Settles O9: a valid candidate's row is of the decoder's layout, and a rejected one's is a named
sub-case. -/
theorem decodedCandidateIsWellFormed : Obligations.DecodedCandidateIsWellFormed := by
  intro c w
  cases hv : (hdrFields c.hdrLayout w).valid with
  | false => exact ⟨(decodeHdr_invalid hv).wellFormed c rfl, (decodeHdr_invalid hv).named⟩
  | true =>
    obtain ⟨-, -, hlayout, -, hnamed⟩ := decodeHdr_valid hv
    exact ⟨(hlayout c).trans (beq_self_eq_true _), hnamed⟩

/-- Settles O10: mask and match, the row and V all say the same of the fields. -/
theorem frameClassIsMaskAndMatch : Obligations.FrameClassIsMaskAndMatch := by
  intro l w
  refine ⟨fun b s h1 hb hs => ⟨?_, frameRow_decodeHdr_eq_some_iff⟩, ?_⟩
  · rw [frameRow_decodeHdr_eq_some_iff, frameMask_eq_frameMatch_iff h1 hb hs]
  · rw [frameRow_decodeHdr_eq_none_iff, classReject_iff]

/-- Settles O11: a candidate of class REJECT is a named sub-case, whose meaning is that of the class row. -/
theorem rejectedCandidatesActAlike : Obligations.RejectedCandidatesActAlike := by
  intro l w v s h
  exact (decodeHdr_invalid (classReject_iff.1 h)).meaning s

/-- Settles O12: words that agree on the mask have the same fields. -/
theorem uninterpretedBitsChangeNothing : Obligations.UninterpretedBitsChangeNothing := by
  intro l w v s h
  have hfields : hdrFields l w = hdrFields l v := by
    rw [← hdrFields_and_readMask l w, h, hdrFields_and_readMask]
  obtain ⟨hrow, hexec⟩ := decodeHdr_congr hfields s
  exact ⟨hrow, by rw [hfields], hexec⟩

/-- Settles O13: the decoder run on each word. -/
theorem writtenOutWordsDecode : Obligations.WrittenOutWordsDecode :=
  ⟨rfl, rfl, rfl, rfl, rfl, rfl, rfl⟩

end Sys2Proof.Proofs
end

section
/-! PROOFS. The assembled frame (spec/30_encoding.md R93): its bytes, and the scan of it alone and with one byte
after it (spec/44_scan_loop.md R204, R205). -/

namespace Sys2Proof.Machine

/-! ## Its bytes -/

theorem hdrFields_imageFrameWord (l : HdrLayout) (b : BitVec 4) (r : BitVec 2) (d k : BitVec 1) :
    hdrFields l (imageFrameWord l b r d k) =
      { sync := 0x7FF, version := 3, layer := 1, bri := b, sri := r, pad := d } := by
  cases l with
  | mpegStd => exact hdrFields_packMpegStd k b r d 0
  | docTable => exact hdrFields_packDocTable b r d 0

/-- What R93 assembles: a header word with V, and the fill byte up to the frame length. -/
theorem imageFrame_eq_some {l : HdrLayout} {b : BitVec 4} {r : BitVec 2} {d k : BitVec 1} {f : Byte}
    {image : List Byte} (h : imageFrame l b r d f k = some image) :
    image = imageWord (imageFrameWord l b r d k) ++ List.replicate (flen b r d - 4) f ∧
      (hdrFields l (imageFrameWord l b r d k)).valid = true ∧ 96 ≤ flen b r d := by
  unfold imageFrame at h
  split at h
  · next hlegal =>
    obtain ⟨h0, h15, h3⟩ := hlegal
    refine ⟨(Option.some.inj h).symm, ?_, (flen_bounds d h0 h15 h3).1⟩
    simp [hdrFields_imageFrameWord, HdrFields.valid, h0, h15, h3]
  · cases h

/-- The first byte of a frame is the sync's, and the last byte of its header is 0. -/
theorem imageFrameWord_bytes (l : HdrLayout) (b : BitVec 4) (r : BitVec 2) (d k : BitVec 1) :
    (imageFrameWord l b r d k).extractLsb' 24 8 = 0xFF#8 ∧
      (imageFrameWord l b r d k).extractLsb' 0 8 = 0#8 := by
  have := b.isLt; have := r.isLt; have := d.isLt; have := k.isLt
  cases l <;>
    · simp only [imageFrameWord, eq_iff_toNat_eq, field_toNat, packMpegStd_toNat, packDocTable_toNat,
        BitVec.ofNat_eq_ofNat, BitVec.toNat_ofNat]
      omega

theorem wordOfBytes_toNat (b0 b1 b2 b3 : Byte) :
    (wordOfBytes b0 b1 b2 b3).toNat =
      b0.toNat * 2 ^ 24 + b1.toNat * 2 ^ 16 + b2.toNat * 2 ^ 8 + b3.toNat := by
  have h : (wordOfBytes b0 b1 b2 b3).toNat = _ := append_toNat (b0 ++ b1 ++ b2) b3
  rw [h]
  simp only [append_toNat]
  omega

theorem length_imageWord (w : Word) : (imageWord w).length = 4 := rfl

/-- The four bytes of a word read back as the word (R53). -/
theorem bufWord_imageWord_append (w : Word) (tail : List Byte) :
    bufWord (imageWord w ++ tail) 0 = w := by
  have h : bufWord (imageWord w ++ tail) 0 = wordOfBytes (w.extractLsb' 24 8) (w.extractLsb' 16 8)
    (w.extractLsb' 8 8) (w.extractLsb' 0 8) := rfl
  have := w.isLt
  rw [h, eq_iff_toNat_eq, wordOfBytes_toNat]
  simp only [field_toNat]
  omega

/-- A byte past the header is the fill byte. -/
theorem bufAt_fill (w : Word) {n p : Nat} (f : Byte) (tail : List Byte) (h4 : 4 ≤ p) (hp : p < n) :
    bufAt (imageWord w ++ (List.replicate (n - 4) f ++ tail)) p = f := by
  have hlen := length_imageWord w
  rw [bufAt, List.getD_append_right _ _ _ _ (by omega),
    List.getD_append _ _ _ _ (by rw [List.length_replicate]; omega), List.getD_replicate _ (by omega)]

/-! ## Its tags: it has none -/

theorem leadingStart_of_sync {buf : List Byte} (h : bufAt buf 0 = 0xFF#8) : leadingStart buf = 0 :=
  if_neg (by simp [isId3v2Mark, h])

/-- No three bytes at LEN − 128 are "TAG": those of the header are told apart by its first and its last
byte, and of the others the last two are equal. -/
theorem trailingBound_of_fill {buf : List Byte} {f : Byte} {n : Nat} (h0 : bufAt buf 0 = 0xFF#8)
    (h3 : bufAt buf 3 = 0#8) (hfill : ∀ p, 4 ≤ p → p < n → bufAt buf p = f) (hn : buf.length ≤ n + 1) :
    trailingBound buf = buf.length := by
  refine if_neg ?_
  rintro ⟨hlen, hmark⟩
  simp only [isId3v1Mark, Bool.and_eq_true, beq_iff_eq] at hmark
  obtain ⟨⟨hT, hA⟩, hG⟩ := hmark
  by_cases h : 131 ≤ buf.length
  · rw [hfill _ (by omega) (by omega)] at hA hG
    exact absurd (hA.symm.trans hG) (by decide)
  · obtain e | e | e : buf.length = 128 ∨ buf.length = 129 ∨ buf.length = 130 := by omega
    · simp [e, h0] at hT
    · simp [e, h3] at hG
    · simp [e, h3] at hA

/-! ## Its scan -/

theorem scanFrom_of_guard_fails (l : HdrLayout) (buf : List Byte) {bound pos : Nat} (fuel count : Nat)
    (h : bound ≤ pos + 4) : scanFrom l buf bound fuel pos count = (pos, count, false) := by
  cases fuel with
  | zero => rfl
  | succ fuel => simp [scanFrom, Nat.not_lt.2 h]

/-- A buffer that begins with a frame and has fewer than five bytes after it: the frame is counted where a
byte follows it (R205), and otherwise the boundary rule ends the scan (R204). -/
theorem countFrames_of_first_frame {l : HdrLayout} {buf : List Byte} {f : HdrFields}
    (hf : hdrFields l (bufWord buf 0) = f) (hv : f.valid = true) (hstart : leadingStart buf = 0)
    (hbound : trailingBound buf = buf.length) (hlen : 4 < buf.length)
    (hend : buf.length ≤ flen f.bri f.sri f.pad + 4) :
    countFrames l buf = if buf.length ≤ flen f.bri f.sri f.pad then 0 else 1 := by
  obtain ⟨fuel, hfuel⟩ : ∃ fuel, buf.length = fuel + 1 := ⟨buf.length - 1, by omega⟩
  have hscan : countFrames l buf = (scanFrom l buf buf.length (fuel + 1) 0 0).2.1 := by
    simp only [countFrames, scanBuffer, hstart, hbound]
    rw [← hfuel]
  rw [hscan]
  simp only [scanFrom, hf, hv, Nat.zero_add, hlen, if_true]
  split
  · rfl
  · rw [scanFrom_of_guard_fails l buf _ _ hend]

theorem countFrames_imageFrame_append {l : HdrLayout} {b : BitVec 4} {r : BitVec 2} {d k : BitVec 1}
    {f : Byte} {image tail : List Byte} (h : imageFrame l b r d f k = some image)
    (ht : tail.length ≤ 1) : countFrames l (image ++ tail) = tail.length := by
  obtain ⟨rfl, hv, hlong⟩ := imageFrame_eq_some h
  obtain ⟨hfirst, hlast⟩ := imageFrameWord_bytes l b r d k
  have hfill := fun p => bufAt_fill (imageFrameWord l b r d k) (n := flen b r d) (p := p) f tail
  have hword := bufWord_imageWord_append (imageFrameWord l b r d k)
    (List.replicate (flen b r d - 4) f ++ tail)
  have hlen : (imageWord (imageFrameWord l b r d k) ++
      (List.replicate (flen b r d - 4) f ++ tail)).length = flen b r d + tail.length := by
    simp only [List.length_append, length_imageWord, List.length_replicate]
    omega
  rw [List.append_assoc]
  generalize hbuf : imageWord (imageFrameWord l b r d k) ++
    (List.replicate (flen b r d - 4) f ++ tail) = buf at *
  have h0 : bufAt buf 0 = 0xFF#8 := hbuf ▸ hfirst
  have h3 : bufAt buf 3 = 0#8 := hbuf ▸ hlast
  rw [countFrames_of_first_frame (congrArg _ hword) hv (leadingStart_of_sync h0)
    (trailingBound_of_fill h0 h3 hfill (by omega)) (by omega)]
  · simp only [hdrFields_imageFrameWord]
    split <;> omega
  · simp only [hdrFields_imageFrameWord]
    omega

end Sys2Proof.Machine

namespace Sys2Proof.Proofs

open Sys2Proof.Machine

/-- Settles O33: the header word gives the row and the length, and the scan counts the bytes after it. -/
theorem assembledFrameCountsWithOneByteAfterIt : Obligations.AssembledFrameCountsWithOneByteAfterIt := by
  intro l b r d k f x image h
  have hcount : ∀ tail : List Byte, tail.length ≤ 1 → countFrames l (image ++ tail) = tail.length :=
    fun _ ht => countFrames_imageFrame_append h ht
  obtain ⟨himage, hv, hlong⟩ := imageFrame_eq_some h
  refine ⟨?_, ?_, ?_, hcount [x] le_rfl⟩
  · rw [himage]
    simp only [List.length_append, length_imageWord, List.length_replicate]
    omega
  · obtain ⟨-, hrow, -⟩ := decodeHdr_valid hv
    rw [himage, bufWord_imageWord_append, hrow, hdrFields_imageFrameWord]
  · simpa using hcount [] (Nat.zero_le 1)

end Sys2Proof.Proofs
end

section
/-! PROOFS. The expansion of LOAD (spec/30_encoding.md R91): its accesses from IDLE store the image byte by byte
and then write LEN. -/

namespace Sys2Proof.Machine

/-! ## Several stored bytes -/

/-- Storing bytes writes BUFMEM and the written offsets, and nothing else. -/
theorem storeBytes_frame (bs : List Byte) (k : Nat) (s : State) :
    storeBytes k bs s =
      { s with bufmem := (storeBytes k bs s).bufmem, written := (storeBytes k bs s).written } := by
  induction bs generalizing k s with
  | nil => rfl
  | cons b bs ih => exact ih (k + 1) (storeByte k b s)

/-- An offset outside the stored range keeps its byte, and whether it is written. -/
theorem storeBytes_other (bs : List Byte) {k a : Nat} (s : State) (ha : a < k ∨ k + bs.length ≤ a) :
    Memory.read (storeBytes k bs s).bufmem a = Memory.read s.bufmem a ∧
      (storeBytes k bs s).written.contains a = s.written.contains a := by
  induction bs generalizing k s with
  | nil => exact ⟨rfl, rfl⟩
  | cons b bs ih =>
    rw [List.length_cons] at ha
    obtain ⟨hread, hwritten⟩ := ih (k := k + 1) (storeByte k b s) (by omega)
    have hne : a ≠ k := by omega
    refine ⟨hread.trans (Memory.read_write_other _ _ _ _ hne), hwritten.trans ?_⟩
    rw [Bool.eq_iff_iff, storeByte_written, Offsets.contains_add]
    simp [hne]

/-- The scanner may use the stored bytes. -/
theorem loadedByte_storeBytes (bs : List Byte) (k : Nat) {j : Nat} (s : State) (hj : j < bs.length) :
    (storeBytes k bs s).loadedByte (k + j) = some (bufAt bs j) := by
  induction bs generalizing k j s with
  | nil => exact absurd hj (Nat.not_lt_zero j)
  | cons b bs ih =>
    cases j with
    | zero =>
      obtain ⟨hread, hwritten⟩ := storeBytes_other bs (storeByte k b s) (.inl (Nat.lt_succ_self k))
      calc (storeBytes k (b :: bs) s).loadedByte k
        _ = (storeByte k b s).loadedByte k := by
          simp only [State.loadedByte, storeBytes, hread, hwritten]
        _ = some b := by rw [loadedByte_storeByte, if_pos rfl]
    | succ j =>
      have hnext := ih (k + 1) (storeByte k b s) (Nat.lt_of_succ_lt_succ hj)
      rwa [Nat.add_right_comm, Nat.add_assoc] at hnext

/-! ## The accesses of LOAD -/

theorem exec_bufWr_of_idle {s : State} {off : Word} (b : Byte) (hf : s.fsm = .idle)
    (ho : off.toNat < s.cfg.bufMax.toNat) : exec (.bufWr off b) s = .next (storeByte off.toNat b s) := by
  simp [exec, execBufWr, ho, State.busy, hf]

theorem exec_wrLen_of_idle {s : State} (v : Word) (hf : s.fsm = .idle) :
    exec (.wrLen v) s = .next (setLen v s) := by
  simp [exec, execWrLen, State.busy, hf]

/-- `BUFW` from IDLE at an offset that exists stores its byte (R107). -/
theorem step_hostBufW {s : State} {k : Nat} {b : Byte} {rest : List Input} (hf : s.fsm = .idle)
    (hc : s.cfg.wf = true) (hk : k < s.cfg.bufMax.toNat)
    (hi : s.inputs = hostBufW s.cfg (BitVec.ofNat 32 k) b :: rest) :
    step s = .next (storeByte k b (beginTurn rest s)) := by
  have hoff : (BitVec.ofNat 32 k).toNat = k := by
    have := s.cfg.bufMax.isLt
    rw [BitVec.toNat_ofNat]
    omega
  have ho : (BitVec.ofNat 32 k).toNat < s.cfg.bufMax.toNat := hoff.symm ▸ hk
  rw [step_access hi (decodeAccess_bufAccess hc .write b ho)]
  exact (exec_bufWr_of_idle (s := beginTurn rest s) b hf ho).trans (by rw [hoff])

/-- `WR LEN` from IDLE writes LEN (R105). -/
theorem step_hostWr_len {s : State} {v : Word} {rest : List Input} (hf : s.fsm = .idle)
    (hi : s.inputs = hostWr s.cfg .len v :: rest) : step s = .next (setLen v (beginTurn rest s)) := by
  rw [step_access hi (decodeAccess_regAccess s.cfg .write v (by decide))]
  exact exec_wrLen_of_idle (s := beginTurn rest s) v hf

/-- The accesses of LOAD store the bytes in order and then write LEN. -/
theorem run_hostLoadFrom (bs : List Byte) {k : Nat} {s : State} {v : Word} {rest : List Input}
    (hf : s.fsm = .idle) (hc : s.cfg.wf = true) (hk : k + bs.length ≤ s.cfg.bufMax.toNat)
    (hi : s.inputs = hostLoadFrom s.cfg k bs ++ hostWr s.cfg .len v :: rest) :
    Host.Core.run Sys2Proof.core (bs.length + 1) s =
      .next (setLen v (storeBytes k bs (beginTurn rest s))) := by
  induction bs generalizing k s with
  | nil => exact run_succ (step_hostWr_len hf hi)
  | cons b bs ih =>
    rw [List.length_cons] at hk ⊢
    rw [run_succ (step_hostBufW hf hc (by omega) hi)]
    exact ih hf hc (by simp; omega) rfl

end Sys2Proof.Machine

namespace Sys2Proof.Proofs

open Sys2Proof.Machine

/-- Settles O42: the run ends with the image stored and LEN written, and both keep all else. -/
theorem loadWritesTheImageAndItsLength : Obligations.LoadWritesTheImageAndItsLength := by
  intro s image rest hf hc hlen hi
  rw [hostLoad, List.append_assoc] at hi
  refine ⟨_, run_hostLoadFrom image hf hc (by omega) hi, fun k hk => ?_, fun a ha => ?_, ?_⟩
  · have hstored := loadedByte_storeBytes image 0 (beginTurn rest s) hk
    rwa [Nat.zero_add] at hstored
  · exact storeBytes_other image (beginTurn rest s) (.inr (by omega))
  · exact congrArg (setLen _) (storeBytes_frame image 0 (beginTurn rest s))

end Sys2Proof.Proofs
end

section
/-! PROOFS. The frames of the instructions (spec/40_host_interface.md R100): which of them write BUFMEM, LEN, IE and
the scan registers. -/

namespace Sys2Proof.Machine

/-- BUFMEM and its written offsets, the parameters, the events still to come and the power-up number are the same
in both states. -/
structure SameMemory (s t : State) : Prop where
  bufmem : t.bufmem = s.bufmem
  written : t.written = s.written
  cfg : t.cfg = s.cfg
  inputs : t.inputs = s.inputs
  powerUps : t.powerUps = s.powerUps

/-! ## The shared operations -/

theorem frameStep_sameMemory (bri : BitVec 4) (sri : BitVec 2) (pad : BitVec 1) (s : State) :
    SameMemory s (frameStep bri sri pad s) := by
  rcases frameStep_cases bri sri pad s with ⟨_, e⟩ | ⟨_, e⟩ <;> rw [e] <;> exact ⟨rfl, rfl, rfl, rfl, rfl⟩

theorem start_sameMemory (s : State) : SameMemory s (start s) := by
  rcases start_cases s with ⟨_, e⟩ | ⟨_, _, e⟩ | ⟨_, _, e⟩ <;> rw [e] <;> exact ⟨rfl, rfl, rfl, rfl, rfl⟩

theorem frameStep_ie (bri : BitVec 4) (sri : BitVec 2) (pad : BitVec 1) (s : State) :
    (frameStep bri sri pad s).ie = s.ie := by
  rcases frameStep_cases bri sri pad s with ⟨_, e⟩ | ⟨_, e⟩ <;> rw [e] <;> rfl

theorem start_hdr (s : State) : (start s).hdr = s.hdr := by
  rcases start_cases s with ⟨_, e⟩ | ⟨_, _, e⟩ | ⟨_, _, e⟩ <;> rw [e] <;> rfl

/-! ## The instructions -/

theorem HostStep.sameMemory {s t : State} {i : Instr} (hst : HostStep s i t)
    (hi : ∀ off b, i ≠ .bufWr off b) : SameMemory s t := by
  cases hst with
  | start v => exact { start_sameMemory (setIe v s) with }
  | store off b => exact absurd rfl (hi off b)
  | bufHazard off b => exact absurd rfl (hi off b)
  | _ => exact ⟨rfl, rfl, rfl, rfl, rfl⟩

theorem InstrStep.sameMemory {s t : State} {i : Instr} (hst : InstrStep s i t)
    (hi : ∀ off b, i ≠ .bufWr off b) : SameMemory s t := by
  cases hst with
  | frame bri sri pad => exact frameStep_sameMemory bri sri pad s
  | host _ hhost => exact hhost.sameMemory hi
  | _ => exact ⟨rfl, rfl, rfl, rfl, rfl⟩

theorem HostStep.len_eq {s t : State} {i : Instr} (hst : HostStep s i t) (hi : ∀ v, i ≠ .wrLen v) :
    t.len = s.len := by
  cases hst with
  | start v => exact (start_sameBuffer (setIe v s)).len
  | len v => exact absurd rfl (hi v)
  | _ => rfl

theorem InstrStep.len_eq {s t : State} {i : Instr} (hst : InstrStep s i t) (hi : ∀ v, i ≠ .wrLen v) :
    t.len = s.len := by
  cases hst with
  | frame bri sri pad => exact (frameStep_sameBuffer bri sri pad s).len
  | host _ hhost => exact hhost.len_eq hi
  | _ => rfl

theorem HostStep.ie_eq {s t : State} {i : Instr} (hst : HostStep s i t) (hi : ∀ v, i ≠ .wrCtrl v) :
    t.ie = s.ie := by
  cases hst with
  | ctrl v => exact absurd rfl (hi v)
  | start v => exact absurd rfl (hi v)
  | _ => rfl

theorem InstrStep.ie_eq {s t : State} {i : Instr} (hst : InstrStep s i t) (hi : ∀ v, i ≠ .wrCtrl v) :
    t.ie = s.ie := by
  cases hst with
  | frame bri sri pad => exact frameStep_ie bri sri pad s
  | host _ hhost => exact hhost.ie_eq hi
  | _ => rfl

/-- No host instruction latches or releases HDR. -/
theorem HostStep.hdr_eq {s t : State} {i : Instr} (hst : HostStep s i t) : t.hdr = s.hdr := by
  cases hst with
  | start v => exact start_hdr (setIe v s)
  | _ => rfl

/-- A decoded host access that is no write of CTRL keeps FSM, the results of the scan and HDR. -/
theorem exec_access_keepsScan {s t : State} {a : BusAccess} {i : Instr} (hd : decodeAccess s.cfg a = .ok i)
    (hex : exec i s = .next t) (hi : ∀ v, i ≠ .wrCtrl v) : SameScan s t ∧ t.hdr = s.hdr := by
  obtain ⟨u, hu, hhost⟩ := decodeAccess_cases hd (s := s) rfl
  obtain rfl := next_inj (hu.symm.trans hex)
  refine ⟨hhost.sameScan_or_start.resolve_right ?_, hhost.hdr_eq⟩
  rintro ⟨v, hv, -⟩
  exact hi v hv

end Sys2Proof.Machine

namespace Sys2Proof.Proofs

open Sys2Proof.Machine

/-- Settles O47: of what an instruction can do, only BUF_WR's store touches BUFMEM, and none the rest. -/
theorem onlyBufferWriteChangesBufmem : Obligations.OnlyBufferWriteChangesBufmem := by
  intro i s t hi hex
  have h := (exec_cases hex).sameMemory hi
  exact ⟨fun a => by rw [h.bufmem], h.written, h.cfg, h.inputs, h.powerUps⟩

/-- Settles O48: LEN and IE by everything an instruction can do, the scan registers by what a host access can. -/
theorem registersChangeOnlyByTheirInstructions : Obligations.RegistersChangeOnlyByTheirInstructions := by
  intro i s t hex
  refine ⟨(exec_cases hex).len_eq, (exec_cases hex).ie_eq, fun a hd hi => ?_⟩
  obtain ⟨h, hhdr⟩ := exec_access_keepsScan hd hex hi
  exact ⟨h.count, h.startPos, h.endBound, h.pos, h.fsm, h.trunc, hhdr⟩

end Sys2Proof.Proofs
end

section
/-! PROOFS. The host operations one by one (spec/40_host_interface.md R101 to R110). -/

namespace Sys2Proof.Machine

open Sys2Proof.Claims

/-! ## Register reads (R101) -/

theorem State.ctrlWord_eq (s : State) : s.ctrlWord = if s.ie then 2 else 0 := by
  unfold State.ctrlWord
  cases s.ie <;> rfl

/-- The concatenated bits of STATUS are the sum of their weights. -/
theorem State.statusWord_eq (s : State) : s.statusWord = statusOf s := by
  have bits : ∀ t h e d b : Bool,
      (0#27 ++ BitVec.ofBool t ++ BitVec.ofBool h ++ BitVec.ofBool e ++ BitVec.ofBool d ++
          BitVec.ofBool b : Word) =
        (if t then 16 else 0) + (if h then 8 else 0) + (if e then 4 else 0) + (if d then 2 else 0) +
          (if b then 1 else 0) := by decide
  simp only [State.statusWord, bits, statusOf, State.busy_eq_true, ne_eq, ite_not]

theorem State.cfgWord_eq (s : State) :
    s.cfgWord = if s.cfg.hdrLayout = .docTable then 1 else 0 := by
  unfold State.cfgWord
  cases s.cfg.hdrLayout <;> rfl

/-! ## Register writes (R102 to R105) -/

theorem start_of_busy {s : State} (hf : s.fsm ≠ .idle) : start s = raiseHazard .start s := by
  rcases start_cases s with ⟨_, e⟩ | ⟨hidle, _⟩ | ⟨hidle, _⟩
  · exact e
  · exact absurd hidle hf
  · exact absurd hidle hf

theorem start_of_contractError {s : State} (hf : s.fsm = .idle)
    (hl : s.cfg.bufMax.toNat < s.len.toNat) : start s = contractError s := by
  rcases start_cases s with ⟨hb, _⟩ | ⟨_, _, e⟩ | ⟨_, hle, _⟩
  · exact absurd hf hb
  · exact e
  · omega

theorem start_of_accepted {s : State} (hf : s.fsm = .idle)
    (hl : s.len.toNat ≤ s.cfg.bufMax.toNat) : start s = acceptStart s := by
  rcases start_cases s with ⟨hb, _⟩ | ⟨_, hlt, _⟩ | ⟨_, _, e⟩
  · exact absurd hf hb
  · omega
  · exact e

/-- Write-1-to-clear, flag by flag: a written 1 clears, a written 0 keeps. -/
theorem Status.acknowledge_eq (st : Status) (v : Word) :
    st.acknowledge v =
      { done := if v.getLsbD 1 then false else st.done
        err := if v.getLsbD 2 then false else st.err
        haz := if v.getLsbD 3 then false else st.haz
        trunc := st.trunc } := by
  simp [Status.acknowledge, Bool.and_comm]

theorem exec_wrLen_of_busy {s : State} (v : Word) (hf : s.fsm ≠ .idle) :
    exec (.wrLen v) s = .next (raiseHazard .len s) := by
  simp [exec, execWrLen, State.busy, hf]

/-! ## Buffer accesses (R107, R108) -/

theorem exec_bufWr_of_busy {s : State} {off : Word} (b : Byte) (hf : s.fsm ≠ .idle)
    (ho : off.toNat < s.cfg.bufMax.toNat) : exec (.bufWr off b) s = .next (raiseHazard .buf s) := by
  simp [exec, execBufWr, ho, State.busy, hf]

/-- A byte at an offset that exists is returned, in every state of the scanner. -/
theorem exec_bufRd_of_lt {s : State} {off : Word} (ho : off.toNat < s.cfg.bufMax.toNat) :
    exec (.bufRd off) s = .next (returnRead (.byte (hostByte s off.toNat)) s) :=
  if_pos ho

theorem hostByte_of_read {s : State} {a : Nat} {b : Byte} (h : Memory.read s.bufmem a = some b) :
    hostByte s a = b := by
  rw [hostByte, h]

theorem hostByte_of_unwritten {s : State} {a : Nat} (h : Memory.read s.bufmem a = none) :
    hostByte s a = Config.freeByte s.cfg.regBase s.powerUps a := by
  rw [hostByte, h]

/-! ## Accesses of another form (R109, R110) -/

/-- An access to the register window that is not an aligned 32-bit one is BAD_REG. -/
theorem decodeAccess_of_malformed {c : Config} {a : BusAccess} (hle : c.regBase ≤ a.addr)
    (hlt : a.addr < c.regBase + 0x1000) (h : a.width ≠ 32 ∨ (a.addr - c.regBase) % 4 ≠ 0) :
    decodeAccess c a = .ok (.badReg a.dir (BitVec.ofNat 12 (a.addr - c.regBase)) a.width a.data) := by
  have hoff : (BitVec.ofNat 12 (a.addr - c.regBase)).toNat = a.addr - c.regBase :=
    (BitVec.toNat_ofNat _ 12).trans (Nat.mod_eq_of_lt (by omega))
  rw [decodeAccess, if_pos ⟨hle, hlt⟩, decodeReg_of_malformed]
  rwa [hoff]

/-- A buffer access that is not 8 bits wide is no access of this block. -/
theorem decodeAccess_of_notByte {c : Config} {a : BusAccess} (hc : c.wf = true) (hle : c.bufBase ≤ a.addr)
    (hlt : a.addr < c.bufBase + c.bufMax.toNat) (hw : a.width ≠ 8) :
    decodeAccess c a = .error (.bufAccessNotByte a.width) := by
  simp only [Config.wf, Bool.or_eq_true, decide_eq_true_eq] at hc
  have hreg : ¬ (c.regBase ≤ a.addr ∧ a.addr < c.regBase + Config.regWindow) := by omega
  rw [decodeAccess, if_neg hreg, if_pos ⟨hle, hlt⟩]
  exact if_neg hw

theorem step_access_notByte {s : State} {a : BusAccess} {rest : List Input} {width : Nat}
    (hi : s.inputs = .access a :: rest) (hd : decodeAccess s.cfg a = .error (.bufAccessNotByte width)) :
    step s = .refused (.bufAccessNotByte width) := by
  simp [step, turn, hi, accessTurn, hd, runTurn]

end Sys2Proof.Machine

namespace Sys2Proof.Proofs

open Sys2Proof.Machine

/-- Settles O34: each meaning returns its register's word, and those of CTRL, STATUS and CFG have the stated bits. -/
theorem registerReadsReturnTheRegister : Obligations.RegisterReadsReturnTheRegister := by
  intro s off
  rw [← s.ctrlWord_eq, ← s.statusWord_eq, ← s.cfgWord_eq]
  exact ⟨rfl, rfl, rfl, rfl, rfl, rfl, rfl, rfl, rfl, rfl⟩

/-- Settles O35: IE is written first, and START is then one of its three cases. -/
theorem writeOfCtrlStartsAScan : Obligations.WriteOfCtrlStartsAScan := by
  intro s v
  refine ⟨fun hv => exec_wrCtrl_of_not_startBit hv s, fun hv hf => ?_, fun hv hf hl => ?_,
    fun hv hf hl => ?_⟩
  · rw [exec_wrCtrl_of_startBit hv, start_of_busy (s := setIe v s) hf]
    rfl
  · rw [exec_wrCtrl_of_startBit hv, start_of_contractError (s := setIe v s) hf hl]
    rfl
  · rw [exec_wrCtrl_of_startBit hv, start_of_accepted (s := setIe v s) hf hl]
    rfl

/-- Settles O36: the meaning is the acknowledge, in every state. -/
theorem writeOfStatusClearsWrittenBits : Obligations.WriteOfStatusClearsWrittenBits := by
  intro s v
  rw [← Status.acknowledge_eq]
  rfl

/-- Settles O37: the two branches of WR_LEN. -/
theorem writeOfLenOnlyWhileIdle : Obligations.WriteOfLenOnlyWhileIdle :=
  fun _ v => ⟨exec_wrLen_of_idle v, exec_wrLen_of_busy v⟩

/-- Settles O38: each of these meanings answers the state it was given. -/
theorem readOnlyWritesAreIgnored : Obligations.ReadOnlyWritesAreIgnored :=
  fun _ _ _ => ⟨rfl, rfl, rfl, rfl, rfl, rfl, rfl⟩

/-- Settles O39: while IDLE the byte is stored, and the laws of BUFMEM say what is read afterwards. -/
theorem bufferWriteStoresOneByte : Obligations.BufferWriteStoresOneByte := by
  intro s off b ho
  refine ⟨fun hf => ⟨_, _, exec_bufWr_of_idle b hf ho, Memory.read_write_same _ _ _,
    Offsets.contains_add.2 (.inl rfl), fun a ha => ?_⟩, fun hf => exec_bufWr_of_busy b hf ho⟩
  exact storeBytes_other [b] s (Nat.lt_or_gt_of_ne ha)

/-- Settles O40: BUF_RD returns what the host sees of the byte. -/
theorem bufferReadReturnsTheByte : Obligations.BufferReadReturnsTheByte := by
  intro s off ho
  refine ⟨fun b hb => ?_, fun hnone => ?_⟩
  · rw [exec_bufRd_of_lt ho, hostByte_of_read hb]
    rfl
  · rw [exec_bufRd_of_lt ho, hostByte_of_unwritten hnone]
    rfl

/-- Settles O43: such an access decodes to BAD_REG, which answers a read with 0 and ignores a write. -/
theorem malformedRegisterAccessIsHarmless : Obligations.MalformedRegisterAccessIsHarmless :=
  ⟨fun _ _ => decodeAccess_of_malformed, fun _ _ _ _ => ⟨rfl, rfl⟩⟩

/-- Settles O44: the windows do not overlap, so the access is decoded as a buffer access and refused. -/
theorem wideBufferAccessIsRefused : Obligations.WideBufferAccessIsRefused :=
  fun _ _ _ hc hi hle hlt hw => step_access_notByte hi (decodeAccess_of_notByte hc hle hlt hw)

end Sys2Proof.Proofs
end

section
/-! PROOFS. The tag skipper (spec/41_tag_skipper.md): the synchsafe size R131 writes bit by bit, the rows of the two
markers, and the turns that find no tag (R130, R132, R135, R136). -/

namespace Sys2Proof.Machine

open Sys2Proof.Claims

/-! ## The synchsafe size -/

theorem low7_eq_and (b : Byte) : b.toNat &&& 0x7F = low7 b :=
  Nat.and_two_pow_sub_one_eq_mod b.toNat 7

/-- Bits below the shifted ones: the or is the sum. -/
theorem shiftLeft_or_eq_mul_add (a : Nat) {b i : Nat} (h : b < 2 ^ i) : a <<< i ||| b = a * 2 ^ i + b := by
  rw [← Nat.shiftLeft_add_eq_or_of_lt h, Nat.shiftLeft_eq]

/-- R131: each group of the size lies above the bits of the groups after it, so the bitwise or of the groups is their
sum. -/
theorem sizeOfBytes_eq_synchsafe (b6 b7 b8 b9 : Byte) : sizeOfBytes b6 b7 b8 b9 = synchsafe b6 b7 b8 b9 := by
  have h7 := low7_lt b7; have h8 := low7_lt b8; have h9 : low7 b9 < 2 ^ 7 := low7_lt b9
  have low14 : low7 b8 * 2 ^ 7 + low7 b9 < 2 ^ 14 := by omega
  have low21 : low7 b7 * 2 ^ 14 + (low7 b8 * 2 ^ 7 + low7 b9) < 2 ^ 21 := by omega
  simp only [sizeOfBytes, low7_eq_and, Nat.or_assoc]
  rw [shiftLeft_or_eq_mul_add _ h9, shiftLeft_or_eq_mul_add _ low14, shiftLeft_or_eq_mul_add _ low21, synchsafe,
    Nat.add_assoc, Nat.add_assoc]

/-! ## The markers -/

theorem isId3v2Mark_eq_true {m0 m1 m2 : Byte} :
    isId3v2Mark m0 m1 m2 = true ↔ m0 = 0x49 ∧ m1 = 0x44 ∧ m2 = 0x33 := by
  simp [isId3v2Mark, and_assoc]

theorem isId3v1Mark_eq_true {m0 m1 m2 : Byte} :
    isId3v1Mark m0 m1 m2 = true ↔ m0 = 0x54 ∧ m1 = 0x41 ∧ m2 = 0x47 := by
  simp [isId3v1Mark, and_assoc]

/-! ## The register writes -/

/-- R136: an END_BOUND at LEN is LEN itself. -/
theorem setEnd_at_len (s : State) : setEnd s.len.toNat s = { s with endBound := s.len, fsm := .scan } := by
  rw [setEnd, BitVec.ofNat_toNat, BitVec.setWidth_eq]

/-- R136: with room for the tag, the difference on naturals is the one on words. -/
theorem setEnd_len_sub {s : State} (hl : 128 ≤ s.len.toNat) :
    setEnd (s.len.toNat - 128) s = { s with endBound := s.len - 128, fsm := .scan } := by
  have hsub : BitVec.ofNat 32 (s.len.toNat - 128) = s.len - 128 := by bv_omega
  rw [setEnd, hsub]

/-! ## The rows of the markers -/

theorem exec_id3v2Mark_of_room (b6 b7 b8 b9 : Byte) {s : State} (hl : 10 ≤ s.len.toNat) :
    exec (.id3v2Mark b6 b7 b8 b9) s = .next (setStart (10 + sizeOfBytes b6 b7 b8 b9) s) := by
  rw [sizeOfBytes_eq_synchsafe]
  exact if_pos (State.roomForId3v2_eq_true.2 hl)

theorem exec_id3v2Mark_of_short (b6 b7 b8 b9 : Byte) {s : State} (hl : s.len.toNat < 10) :
    exec (.id3v2Mark b6 b7 b8 b9) s = .next (setStart 0 s) :=
  if_neg (mt State.roomForId3v2_eq_true.1 (Nat.not_le.2 hl))

theorem exec_id3v1Mark_of_room {s : State} (hl : 128 ≤ s.len.toNat) :
    exec .id3v1Mark s = .next { s with endBound := s.len - 128, fsm := .scan } := by
  rw [← setEnd_len_sub hl]
  exact if_pos (State.roomForId3v1_eq_true.2 hl)

theorem exec_id3v1Mark_of_short {s : State} (hl : s.len.toNat < 128) :
    exec .id3v1Mark s = .next { s with endBound := s.len, fsm := .scan } := by
  rw [← setEnd_at_len]
  exact if_neg (mt State.roomForId3v1_eq_true.1 (Nat.not_le.2 hl))

/-! ## The turns that find no tag -/

/-- R130: with LEN < 10 the LEAD_TAG step reads no byte. -/
theorem step_leadTag_of_short {s : State} (hm : ScannerMoves s) (hf : s.fsm = .leadTag) (hl : s.len.toNat < 10) :
    step s = .next (setStart 0 (taken s)) := by
  simp [step_scanner hm, scannerTurn, hf, leadTagTurn, State.roomForId3v2, Nat.not_le.2 hl, runTurn,
    taken_eq_beginTurn]

theorem step_leadTag_of_noMark {s : State} {m0 m1 m2 : Byte} (hm : ScannerMoves s) (hf : s.fsm = .leadTag)
    (hl : 10 ≤ s.len.toNat) (h3 : bufRead3 s 0 = .ok (m0, m1, m2)) (hmark : ¬ isId3v2Mark m0 m1 m2 = true) :
    step s = .next (setStart 0 (taken s)) := by
  simp [step_scanner hm, scannerTurn, hf, leadTagTurn, State.roomForId3v2, hl, h3, hmark, runTurn,
    taken_eq_beginTurn]

/-- R135: with LEN < 128 the TRAIL_TAG step reads no byte. -/
theorem step_trailTag_of_short {s : State} (hm : ScannerMoves s) (hf : s.fsm = .trailTag)
    (hl : s.len.toNat < 128) : step s = .next (setEnd s.len.toNat (taken s)) := by
  simp [step_scanner hm, scannerTurn, hf, trailTagTurn, State.roomForId3v1, Nat.not_le.2 hl, runTurn,
    taken_eq_beginTurn]

theorem step_trailTag_of_noMark {s : State} {m0 m1 m2 : Byte} (hm : ScannerMoves s) (hf : s.fsm = .trailTag)
    (hl : 128 ≤ s.len.toNat) (h3 : bufRead3 s (s.len.toNat - 128) = .ok (m0, m1, m2))
    (hmark : ¬ isId3v1Mark m0 m1 m2 = true) :
    step s = .next (setEnd s.len.toNat (taken s)) := by
  simp [step_scanner hm, scannerTurn, hf, trailTagTurn, State.roomForId3v1, hl, h3, hmark, runTurn,
    taken_eq_beginTurn]

end Sys2Proof.Machine

namespace Sys2Proof.Proofs

open Sys2Proof.Machine Sys2Proof.Claims

/-- Settles O21: without room or marker the start is 0, and a marked header runs the row ID3V2_MARK. -/
theorem leadTagStepFixesTheStart : Obligations.LeadTagStepFixesTheStart := by
  intro s hm hf
  refine ⟨fun hl => ?short, fun m0 m1 m2 hl h0 h1 h2 hmark => ?noMark,
    fun b6 b7 b8 b9 hl h0 h1 h2 h6 h7 h8 h9 => ?mark⟩
  case short => exact step_leadTag_of_short hm hf hl
  case noMark =>
    exact step_leadTag_of_noMark hm hf hl (bufRead3_eq_ok h0 h1 h2) (mt isId3v2Mark_eq_true.1 hmark)
  case mark =>
    rw [step_leadTag_of_mark hm hf hl (bufRead3_eq_ok h0 h1 h2) rfl (bufRead4_eq_ok h6 h7 h8 h9)]
    exact exec_id3v2Mark_of_room b6 b7 b8 b9 (s := taken s) hl

/-- Settles O22: without room or marker END_BOUND is LEN, and marked bytes run the row ID3V1_MARK. -/
theorem trailTagStepFixesTheEnd : Obligations.TrailTagStepFixesTheEnd := by
  intro s hm hf
  have hend : setEnd s.len.toNat (taken s) = { taken s with endBound := s.len, fsm := .scan } :=
    setEnd_at_len (taken s)
  refine ⟨fun hl => hend ▸ step_trailTag_of_short hm hf hl, fun m0 m1 m2 hl h0 h1 h2 => ?_⟩
  have e1 : s.len.toNat - 127 = s.len.toNat - 128 + 1 := by omega
  have e2 : s.len.toNat - 126 = s.len.toNat - 128 + 2 := by omega
  have h3 := bufRead3_eq_ok h0 (e1 ▸ h1) (e2 ▸ h2)
  by_cases hmark : isId3v1Mark m0 m1 m2 = true
  · rw [step_trailTag_of_mark hm hf hl h3 hmark, if_pos (isId3v1Mark_eq_true.1 hmark)]
    exact exec_id3v1Mark_of_room (s := taken s) hl
  · rw [step_trailTag_of_noMark hm hf hl h3 hmark, hend, if_neg (mt isId3v1Mark_eq_true.2 hmark)]

/-- Settles O19: the two sides of the LEN test; the size has 28 bits. -/
theorem leadingMarkRowSetsStart : Obligations.LeadingMarkRowSetsStart := by
  intro s b6 b7 b8 b9
  refine ⟨exec_id3v2Mark_of_room b6 b7 b8 b9, exec_id3v2Mark_of_short b6 b7 b8 b9, ?_⟩
  have := synchsafe_lt b6 b7 b8 b9
  rw [sizeOfBytes_eq_synchsafe]
  omega

/-- Settles O20: the two sides of the LEN test. -/
theorem trailingMarkRowSetsEnd : Obligations.TrailingMarkRowSetsEnd :=
  fun _ => ⟨exec_id3v1Mark_of_room, exec_id3v1Mark_of_short⟩

end Sys2Proof.Proofs
end

section
/-! PROOFS. The frame-length calculator (spec/43_frame_length.md): its table, and its range over the valid
candidates (R183, R184). -/

namespace Sys2Proof.Machine

open Sys2Proof.Claims

/-- R181: PAD is added after the floor. -/
theorem flen_eq_add_pad (bri : BitVec 4) (sri : BitVec 2) (pad : BitVec 1) :
    flen bri sri pad = flen bri sri 0 + pad.toNat := rfl

/-- R183's columns of padding 0: the 42 quotients. -/
theorem flen_unpadded_of_mem_flenTable : ∀ row ∈ flenTable,
    flen (BitVec.ofNat 4 row.1) 0 0 = row.2.1 ∧ flen (BitVec.ofNat 4 row.1) 1 0 = row.2.2.1 ∧
      flen (BitVec.ofNat 4 row.1) 2 0 = row.2.2.2 := by decide

/-- R165: V leaves out the indices the calculator is not evaluated for. -/
theorem indices_legal_of_valid {f : HdrFields} (hv : f.valid = true) :
    f.bri ≠ 0#4 ∧ f.bri ≠ 15#4 ∧ f.sri ≠ 3#2 := by
  obtain ⟨-, -, -, hbri, hsri⟩ := HdrFields.valid_eq_true.1 hv
  exact ⟨by bv_omega, by bv_omega, by bv_omega⟩

end Sys2Proof.Machine

namespace Sys2Proof.Proofs

open Sys2Proof.Machine Sys2Proof.Claims

/-- Settles O15: the indices of a valid candidate are legal, and legal indices give 96 to 1440 before padding. -/
theorem frameLengthRange : Obligations.FrameLengthRange := by
  refine ⟨fun l w hv => ?_, by decide, by decide⟩
  obtain ⟨h0, h15, h3⟩ := indices_legal_of_valid hv
  exact flen_bounds _ h0 h15 h3

/-- Settles O14: the quotients of the row, each with the padding byte added. -/
theorem frameLengthTable : Obligations.FrameLengthTable := by
  intro row hrow pad
  obtain ⟨h0, h1, h2⟩ := flen_unpadded_of_mem_flenTable row hrow
  simp only [flen_eq_add_pad _ _ pad, h0, h1, h2, and_self]

end Sys2Proof.Proofs
end

section
/-! PROOFS. The steps of the scan loop (spec/44_scan_loop.md R200 to R207, R209): what each branch of a SCAN step and
the FINISH step leaves, and the candidate rows one by one. -/

namespace Sys2Proof.Machine

open Sys2Proof.Claims

/-! ## The candidate rows -/

/-- R203 to R205: a valid candidate's meaning is the answer for its frame length. -/
theorem frameStep_eq_frameAnswer (bri : BitVec 4) (sri : BitVec 2) (pad : BitVec 1) (s : State) :
    frameStep bri sri pad s = frameAnswer (flen bri sri pad) s := by
  rcases frameStep_cases bri sri pad s with ⟨h, e⟩ | ⟨h, e⟩ <;> rw [e, frameAnswer]
  · rw [if_pos h]
    rfl
  · rw [if_neg (Nat.not_le.2 h)]
    rfl

/-- The answer of a row whose unpadded frame length is `n`. -/
theorem next_frameStep_of_flen {bri : BitVec 4} {sri : BitVec 2} {n : Nat} (h : flen bri sri 0 = n)
    (pad : BitVec 1) (s : State) :
    (.next (frameStep bri sri pad s) : Result) = .next (frameAnswer (n + pad.toNat) s) := by
  rw [frameStep_eq_frameAnswer, flen_eq_add_pad, h]

/-- R202: a rejected candidate's meaning. -/
theorem rejectStep_eq_rejectAnswer (s : State) : rejectStep s = rejectAnswer s := rfl

/-! ## The branches of a SCAN step, and the FINISH step -/

/-- R201: the guard is tested before anything else. -/
theorem step_scan_of_guard_fails {s : State} (hm : ScannerMoves s) (hf : s.fsm = .scan)
    (hg : s.endBound.toNat ≤ s.pos.toNat + 4) : step s = .next (endScan (taken s)) := by
  simp [step_scanner hm, scannerTurn, hf, scanTurn, State.guard, Nat.not_lt.2 hg, runTurn, taken_eq_beginTurn]

/-- R207: the bounds test comes before the fetch. -/
theorem step_scan_of_bounds {s : State} (hm : ScannerMoves s) (hf : s.fsm = .scan)
    (hg : s.pos.toNat + 4 < s.endBound.toNat) (hl : s.len.toNat ≤ s.pos.toNat + 3) :
    step s = .next (boundsPath (taken s)) := by
  simp [step_scanner hm, scannerTurn, hf, scanTurn, State.guard, hg, State.outOfBounds, hl, runTurn,
    taken_eq_beginTurn]

theorem step_finish {s : State} (hm : ScannerMoves s) (hf : s.fsm = .finish) :
    step s = .next (finishScan (taken s)) := by
  simp [step_scanner hm, scannerTurn, hf, runTurn, taken_eq_beginTurn]

section Candidate

variable {s : State} {w : Word} (hm : ScannerMoves s) (hf : s.fsm = .scan)
  (hg : s.pos.toNat + 4 < s.endBound.toNat) (hl : s.pos.toNat + 3 < s.len.toNat)
  (hw : memRead4 s s.pos.toNat = .ok w)
include hm hf hg hl hw

/-- R202: without V the step rejects the candidate. -/
theorem step_scan_of_invalid (hv : (hdrFields s.cfg.hdrLayout w).valid = false) :
    step s = .next (rejectStep (latchHdr w (taken s))) := by
  rw [step_scan_of_candidate hm hf hg hl hw]
  exact (decodeHdr_invalid hv).meaning _

/-- R203: with V the step runs the frame of the candidate's indices. -/
theorem step_scan_of_valid (hv : (hdrFields s.cfg.hdrLayout w).valid = true) :
    step s = .next (frameStep (hdrFields s.cfg.hdrLayout w).bri (hdrFields s.cfg.hdrLayout w).sri
      (hdrFields s.cfg.hdrLayout w).pad (latchHdr w (taken s))) := by
  obtain ⟨-, -, -, hmeaning, -⟩ := decodeHdr_valid hv
  rw [step_scan_of_candidate hm hf hg hl hw, hmeaning]

end Candidate

/-- A step on the scanner's turn is one of the scanner's steps. -/
theorem scannerStep_of_step {s t : State} (hm : ScannerMoves s) (hst : step s = .next t) :
    ScannerStep (taken s) t :=
  scannerTurn_cases ((step_scanner hm).symm.trans hst)

/-- R209: the scan ends, or POS moves on by one byte or by a counted frame. The guard and the boundary rule keep the
sums below END_BOUND, so they do not wrap (R208). -/
theorem ScannerStep.ends_or_moves_on {s t : State} (hst : ScannerStep s t) (hf : s.fsm = .scan) :
    t.fsm = .finish ∨
      (t.fsm = .scan ∧
        ((t.pos.toNat = s.pos.toNat + 1 ∧ t.count = s.count) ∨
          (s.pos.toNat + 96 ≤ t.pos.toNat ∧ t.count = s.count + 1))) := by
  cases hst with
  | idle h => cases hf.symm.trans h
  | start n h => cases hf.symm.trans h
  | bound n h => cases hf.symm.trans h
  | finish h => cases hf.symm.trans h
  | guardFails => exact .inl rfl
  | bounds => exact .inl rfl
  | candidate w _ hg hl hv =>
    rcases frameStep_cases (hdrFields s.cfg.hdrLayout w).bri (hdrFields s.cfg.hdrLayout w).sri
      (hdrFields s.cfg.hdrLayout w).pad (latchHdr w s) with ⟨_, e⟩ | ⟨hend, e⟩ <;> rw [e]
    · exact .inl rfl
    · refine .inr ⟨hf, .inr ⟨?_, rfl⟩⟩
      rw [releaseHdr_pos, countFrame_pos_toNat hend]
      exact Nat.add_le_add_left (flen_ge_of_valid hv) _
  | noCandidate w _ hg =>
    have hpos : s.pos.toNat < s.endBound.toNat := by omega
    exact .inr ⟨hf, .inl ⟨word_add_one_toNat hpos s.endBound.isLt, rfl⟩⟩

end Sys2Proof.Machine

namespace Sys2Proof.Proofs

open Sys2Proof.Machine Sys2Proof.Claims

/-- Settles O24: the guard leaves POS + 3 below END_BOUND, and while BUSY that is at most LEN. -/
theorem boundsPathGivesZeroAndIsUnreachable : Obligations.BoundsPathGivesZeroAndIsUnreachable := by
  intro s hf hg
  refine ⟨fun hm hl => step_scan_of_bounds hm hf hg hl, fun hinv => ?_⟩
  obtain ⟨hbound, -⟩ := hinv.busyLen (State.busy_of_fsm hf)
  omega

/-- Settles O28: the cases of the scanner's step in SCAN. -/
theorem scanStepEndsOrMovesOn : Obligations.ScanStepEndsOrMovesOn :=
  fun _ _ hm hf hst => (scannerStep_of_step hm hst).ends_or_moves_on hf

/-- Settles O16: each row is the valid candidate of its own indices, with R183's length of those. -/
theorem mpegStdFrameRowsCountOrEndTheScan : Obligations.MpegStdFrameRowsCountOrEndTheScan := by
  intro s prot pad low
  and_intros <;> exact next_frameStep_of_flen rfl pad s

/-- Settles O17: each row is the valid candidate of its own indices, with R183's length of those. -/
theorem docTableFrameRowsCountOrEndTheScan : Obligations.DocTableFrameRowsCountOrEndTheScan := by
  intro s pad low
  and_intros <;> exact next_frameStep_of_flen rfl pad s

/-- Settles O18: every rejecting row has the one meaning of R202. -/
theorem rejectRowsAdvanceByOneByte : Obligations.RejectRowsAdvanceByOneByte := by
  intro s
  rw [← rejectStep_eq_rejectAnswer]
  and_intros <;> intros <;> rfl

/-- Settles O23: with END_BOUND ≤ 4 the guard fails for every POS. -/
theorem guardFailureEndsTheScan : Obligations.GuardFailureEndsTheScan :=
  fun _ hm hf => ⟨fun hg => step_scan_of_guard_fails hm hf (Nat.not_lt.1 hg),
    fun hle => step_scan_of_guard_fails hm hf (hle.trans (Nat.le_add_left _ _))⟩

/-- Settles O25: with DONE set the interrupt line is IE, and BUSY is FSM ≠ IDLE. -/
theorem finishReportsTheResult : Obligations.FinishReportsTheResult :=
  fun s hm hf => ⟨_, step_finish hm hf, Bool.true_and s.ie, rfl, rfl⟩

end Sys2Proof.Proofs
end

section
/-! PROOFS. The result function (spec/44_scan_loop.md R210): the loop case by case, when two scans agree, the corner
cases (R211) and the transparency of the tags (R212). -/

namespace Sys2Proof.Machine

/-! ## The loop, case by case -/

/-- The four branches of the loop at a position (R200): the guard fails, or the candidate is invalid, a frame that
reaches the bound, or a frame to be counted. -/
inductive LoopBranch (l : HdrLayout) (buf : List Byte) (bound pos : Nat) : Prop
  | guardFails : bound ≤ pos + 4 → LoopBranch l buf bound pos
  | invalid (f : HdrFields) : pos + 4 < bound → hdrFields l (bufWord buf pos) = f → f.valid = false →
      LoopBranch l buf bound pos
  | frameAtBound (f : HdrFields) : pos + 4 < bound → hdrFields l (bufWord buf pos) = f → f.valid = true →
      bound ≤ pos + flen f.bri f.sri f.pad → LoopBranch l buf bound pos
  | frame (f : HdrFields) : pos + 4 < bound → hdrFields l (bufWord buf pos) = f → f.valid = true →
      pos + flen f.bri f.sri f.pad < bound → LoopBranch l buf bound pos

theorem loopBranch (l : HdrLayout) (buf : List Byte) (bound pos : Nat) : LoopBranch l buf bound pos := by
  rcases Nat.lt_or_ge (pos + 4) bound with hg | hg
  · generalize hf : hdrFields l (bufWord buf pos) = f
    cases hv : f.valid with
    | false => exact .invalid f hg hf hv
    | true =>
      rcases Nat.lt_or_ge (pos + flen f.bri f.sri f.pad) bound with hend | hend
      · exact .frame f hg hf hv hend
      · exact .frameAtBound f hg hf hv hend
  · exact .guardFails hg

section Loop

variable {l : HdrLayout} {buf : List Byte} {bound pos : Nat} {f : HdrFields} (fuel count : Nat)
  (hg : pos + 4 < bound) (hf : hdrFields l (bufWord buf pos) = f)
include hg hf

/-- R202: an invalid candidate moves the position on by one. -/
theorem scanFrom_of_invalid (hv : f.valid = false) :
    scanFrom l buf bound (fuel + 1) pos count = scanFrom l buf bound fuel (pos + 1) count := by
  simp [scanFrom, hg, hf, hv]

/-- R204: a frame that reaches the bound ends the loop. -/
theorem scanFrom_of_frame_at_bound (hv : f.valid = true) (hend : bound ≤ pos + flen f.bri f.sri f.pad) :
    scanFrom l buf bound (fuel + 1) pos count = (pos, count, true) := by
  simp [scanFrom, hg, hf, hv, hend]

/-- R205: a frame that ends before the bound is counted. -/
theorem scanFrom_of_frame (hv : f.valid = true) (hend : pos + flen f.bri f.sri f.pad < bound) :
    scanFrom l buf bound (fuel + 1) pos count =
      scanFrom l buf bound fuel (pos + flen f.bri f.sri f.pad) (count + 1) := by
  simp [scanFrom, hg, hf, hv, Nat.not_le.2 hend]

end Loop

/-! ## When two scans agree -/

/-- The last position of a loop, `k` bytes further on. -/
def shiftResult (k : Nat) (r : Nat × Nat × Bool) : Nat × Nat × Bool := (k + r.1, r.2.1, r.2.2)

/-- R212: where the candidates of two buffers agree, `k` bytes apart, so do their scans. -/
theorem scanFrom_shift {l : HdrLayout} {buf buf' : List Byte} {bound k : Nat}
    (hword : ∀ p, p + 4 < bound → bufWord buf' (k + p) = bufWord buf p) (fuel pos count : Nat) :
    scanFrom l buf' (k + bound) fuel (k + pos) count =
      shiftResult k (scanFrom l buf bound fuel pos count) := by
  induction fuel generalizing pos count with
  | zero => rfl
  | succ fuel ih =>
    have hfields {f : HdrFields} (hg : pos + 4 < bound) (hf : hdrFields l (bufWord buf pos) = f) :
        hdrFields l (bufWord buf' (k + pos)) = f := by rw [hword pos hg, hf]
    cases loopBranch l buf bound pos with
    | guardFails hg =>
      rw [scanFrom_of_guard_fails _ _ _ _ hg, scanFrom_of_guard_fails _ _ _ _ (by omega), shiftResult]
    | invalid f hg hf hv =>
      rw [scanFrom_of_invalid _ _ hg hf hv, scanFrom_of_invalid _ _ (by omega) (hfields hg hf) hv, Nat.add_assoc, ih]
    | frameAtBound f hg hf hv hend =>
      rw [scanFrom_of_frame_at_bound _ _ hg hf hv hend,
        scanFrom_of_frame_at_bound _ _ (by omega) (hfields hg hf) hv (by omega), shiftResult]
    | frame f hg hf hv hend =>
      rw [scanFrom_of_frame _ _ hg hf hv hend,
        scanFrom_of_frame _ _ (by omega) (hfields hg hf) hv (by omega), Nat.add_assoc, ih]

/-- R209: every candidate moves the position on, so fuel for the bytes up to the bound is enough. -/
theorem scanFrom_of_more_fuel {l : HdrLayout} {buf : List Byte} {bound fuel fuel' pos : Nat} (count : Nat)
    (h : bound ≤ pos + 4 + fuel) (hle : fuel ≤ fuel') :
    scanFrom l buf bound fuel' pos count = scanFrom l buf bound fuel pos count := by
  induction fuel generalizing fuel' pos count with
  | zero => rw [scanFrom_of_guard_fails _ _ _ _ h, scanFrom_of_guard_fails _ _ _ _ h]
  | succ fuel ih =>
    obtain ⟨fuel', rfl⟩ : ∃ n, fuel' = n + 1 := ⟨fuel' - 1, by omega⟩
    cases loopBranch l buf bound pos with
    | guardFails hg => rw [scanFrom_of_guard_fails _ _ _ _ hg, scanFrom_of_guard_fails _ _ _ _ hg]
    | invalid f hg hf hv =>
      rw [scanFrom_of_invalid _ _ hg hf hv, scanFrom_of_invalid _ _ hg hf hv, ih _ (by omega) (by omega)]
    | frameAtBound f hg hf hv hend =>
      rw [scanFrom_of_frame_at_bound _ _ hg hf hv hend, scanFrom_of_frame_at_bound _ _ hg hf hv hend]
    | frame f hg hf hv hend =>
      have := flen_ge_of_valid hv
      rw [scanFrom_of_frame _ _ hg hf hv hend, scanFrom_of_frame _ _ hg hf hv hend, ih _ (by omega) (by omega)]

/-- Without a valid candidate nothing more is counted. -/
theorem scanFrom_count_of_no_candidate {l : HdrLayout} {buf : List Byte} {bound fuel pos count : Nat}
    (h : ∀ p, pos ≤ p → (hdrFields l (bufWord buf p)).valid = false) :
    (scanFrom l buf bound fuel pos count).2.1 = count := by
  induction fuel generalizing pos with
  | zero => rfl
  | succ fuel ih =>
    by_cases hg : pos + 4 < bound
    · rw [scanFrom_of_invalid _ _ hg rfl (h pos le_rfl), ih fun p hp => h p (Nat.le_of_succ_le hp)]
    · rw [scanFrom_of_guard_fails _ _ _ _ (Nat.not_lt.1 hg)]

theorem countFrames_eq (l : HdrLayout) (buf : List Byte) :
    countFrames l buf =
      (scanFrom l buf (trailingBound buf) (trailingBound buf) (leadingStart buf) 0).2.1 := rfl

/-- R212: buffers whose starts, bounds and candidates lie `k` bytes apart have the same count. -/
theorem countFrames_eq_of_shift {l : HdrLayout} {buf buf' : List Byte} (k : Nat)
    (hstart : leadingStart buf' = k + leadingStart buf) (hbound : trailingBound buf' = k + trailingBound buf)
    (hword : ∀ p, p + 4 < trailingBound buf → bufWord buf' (k + p) = bufWord buf p) :
    countFrames l buf' = countFrames l buf := by
  rw [countFrames_eq, countFrames_eq, hstart, hbound,
    scanFrom_of_more_fuel (fuel := trailingBound buf) 0 (by omega) (Nat.le_add_left _ k), scanFrom_shift hword,
    shiftResult]

/-! ## Bytes of a buffer -/

theorem bufAt_append_left {a : List Byte} (b : List Byte) {p : Nat} (h : p < a.length) :
    bufAt (a ++ b) p = bufAt a p :=
  List.getD_append a b 0 p h

theorem bufAt_append_right (a b : List Byte) (p : Nat) : bufAt (a ++ b) (a.length + p) = bufAt b p := by
  rw [bufAt, List.getD_append_right _ _ _ _ (Nat.le_add_right _ _), Nat.add_sub_cancel_left, bufAt]

theorem bufWord_append_left {a : List Byte} (b : List Byte) {p : Nat} (h : p + 4 < a.length) :
    bufWord (a ++ b) p = bufWord a p := by
  simp only [bufWord, bufAt_append_left b (show p < a.length by omega),
    bufAt_append_left b (show p + 1 < a.length by omega), bufAt_append_left b (show p + 2 < a.length by omega),
    bufAt_append_left b (show p + 3 < a.length by omega)]

theorem bufWord_append_right (a b : List Byte) (p : Nat) : bufWord (a ++ b) (a.length + p) = bufWord b p := by
  simp only [bufWord, Nat.add_assoc, bufAt_append_right]

/-- Three bytes of a buffer, as the conditions of R212 write them. -/
theorem take_three_drop {buf : List Byte} {k : Nat} (h : k + 2 < buf.length) :
    (buf.drop k).take 3 = [bufAt buf k, bufAt buf (k + 1), bufAt buf (k + 2)] := by
  have h0 : k < buf.length := by omega
  have h1 : k + 1 < buf.length := by omega
  rw [List.drop_eq_getElem_cons h0, List.drop_eq_getElem_cons h1, List.drop_eq_getElem_cons h, bufAt, bufAt,
    bufAt, List.getD_eq_getElem _ _ h0, List.getD_eq_getElem _ _ h1, List.getD_eq_getElem _ _ h]
  rfl

/-! ## Start and bound -/

theorem trailingBound_le (buf : List Byte) : trailingBound buf ≤ buf.length := by
  unfold trailingBound
  split
  · exact Nat.sub_le _ _
  · exact le_rfl

theorem leadingStart_of_no_mark {buf : List Byte} (h : ¬ buf.take 3 = [0x49, 0x44, 0x33]) :
    leadingStart buf = 0 := by
  refine if_neg ?_
  rintro ⟨hlen, hmark⟩
  obtain ⟨h0, h1, h2⟩ := isId3v2Mark_eq_true.1 hmark
  have htake := take_three_drop (buf := buf) (k := 0) (by omega)
  rw [List.drop_zero, h0, h1, h2] at htake
  exact h htake

theorem trailingBound_of_no_mark {buf : List Byte}
    (h : 128 ≤ buf.length → ¬ (buf.drop (buf.length - 128)).take 3 = [0x54, 0x41, 0x47]) :
    trailingBound buf = buf.length := by
  refine if_neg ?_
  rintro ⟨hlen, hmark⟩
  obtain ⟨h0, h1, h2⟩ := isId3v1Mark_eq_true.1 hmark
  have htake := take_three_drop (buf := buf) (k := buf.length - 128) (by omega)
  rw [show buf.length - 128 + 1 = buf.length - 127 by omega,
    show buf.length - 128 + 2 = buf.length - 126 by omega, h0, h1, h2] at htake
  exact h hlen htake

/-! ## Corner cases (R211) -/

theorem countFrames_of_short (l : HdrLayout) {buf : List Byte} (h : buf.length ≤ 4) : countFrames l buf = 0 := by
  have := trailingBound_le buf
  rw [countFrames_eq, scanFrom_of_guard_fails _ _ _ _ (by omega)]

/-- Four zero bytes are no candidate: their sync is 0. -/
theorem valid_of_zero_bytes (l : HdrLayout) {buf : List Byte} {pos : Nat} (h : ∀ p, pos ≤ p → bufAt buf p = 0) :
    (hdrFields l (bufWord buf pos)).valid = false := by
  rw [bufWord, h _ le_rfl, h _ (by omega), h _ (by omega), h _ (by omega)]
  cases l <;> rfl

theorem countFrames_zero (l : HdrLayout) (n : Nat) : countFrames l (List.replicate n 0) = 0 :=
  scanFrom_count_of_no_candidate fun p _ => valid_of_zero_bytes l fun q _ => by
    rw [bufAt, List.getD_eq_getElem?_getD, List.getElem?_getD_replicate_default_eq]

/-- R204 and R205 for a buffer that begins with a frame and has no candidate after it. -/
theorem countFrames_of_only_frame {l : HdrLayout} {buf : List Byte} {f : HdrFields}
    (hf : hdrFields l (bufWord buf 0) = f) (hv : f.valid = true) (hstart : leadingStart buf = 0)
    (hbound : trailingBound buf = buf.length) (hlen : 4 < buf.length)
    (hrest : ∀ p, flen f.bri f.sri f.pad ≤ p → (hdrFields l (bufWord buf p)).valid = false) :
    countFrames l buf = if buf.length ≤ flen f.bri f.sri f.pad then 0 else 1 := by
  obtain ⟨fuel, hfuel⟩ : ∃ fuel, buf.length = fuel + 1 := ⟨buf.length - 1, by omega⟩
  have hscan : countFrames l buf = (scanFrom l buf buf.length (fuel + 1) 0 0).2.1 := by
    rw [countFrames_eq, hstart, hbound, ← hfuel]
  rw [hscan]
  split
  · next hend => rw [scanFrom_of_frame_at_bound _ _ (by omega) hf hv (by omega)]
  · rw [scanFrom_of_frame _ _ (by omega) hf hv (by omega),
      scanFrom_count_of_no_candidate fun p hp => hrest p ((Nat.le_add_left _ 0).trans hp)]

/-- The source's frame of 192 bytes with `k` zero bytes after it. -/
theorem countFrames_source_frame (k : Nat) :
    countFrames .mpegStd (imageWord 0xFFFB5400 ++ List.replicate (188 + k) 0) = if k = 0 then 0 else 1 := by
  have hlen : (imageWord 0xFFFB5400 ++ List.replicate (188 + k) 0).length = 192 + k := by
    simp only [List.length_append, length_imageWord, List.length_replicate]
    omega
  have hzero : ∀ p, 4 ≤ p → bufAt (imageWord 0xFFFB5400 ++ List.replicate (188 + k) 0) p = 0 := by
    intro p hp
    rw [bufAt, List.getD_append_right _ _ _ _ hp, List.getD_eq_getElem?_getD,
      List.getElem?_getD_replicate_default_eq]
  generalize hbuf : imageWord 0xFFFB5400 ++ List.replicate (188 + k) 0 = buf at *
  have h0 : bufAt buf 0 = 0xFF := hbuf ▸ rfl
  have h3 : bufAt buf 3 = 0 := hbuf ▸ rfl
  have hword : bufWord buf 0 = 0xFFFB5400 := hbuf ▸ bufWord_imageWord_append _ _
  have hflen : flen 5 1 0 = 192 := rfl
  have hflong : 4 ≤ flen 5 1 0 := by rw [hflen]; decide
  rw [countFrames_of_only_frame (f := ⟨0x7FF, 3, 1, 5, 1, 0⟩) (hword ▸ rfl) rfl (leadingStart_of_sync h0)
    (trailingBound_of_fill h0 h3 (fun p hp _ => hzero p hp) (Nat.le_succ _)) (by omega)
    fun p hp => valid_of_zero_bytes _ fun q hq => hzero q (hflong.trans (hp.trans hq)), hlen, hflen]
  exact if_congr (by omega) rfl rfl

/-! ## The leading tag (R212) -/

/-- The size of a well-formed leading tag, put together again from its four bytes (R94, R131). -/
theorem synchsafe_of_groups {n : Nat} (h : n < 2 ^ 28) :
    synchsafe (BitVec.ofNat 8 (n / 2 ^ 21 % 128)) (BitVec.ofNat 8 (n / 2 ^ 14 % 128))
      (BitVec.ofNat 8 (n / 2 ^ 7 % 128)) (BitVec.ofNat 8 (n % 128)) = n := by
  simp only [synchsafe, low7, BitVec.toNat_ofNat]
  omega

/-- R132: whatever follows a well-formed leading tag, the scan starts right after it. -/
theorem leadingStart_imageId3v2_append {n : Nat} {f : Byte} {tag : List Byte} (h : imageId3v2 n f = some tag)
    (stream : List Byte) : leadingStart (tag ++ stream) = tag.length := by
  unfold imageId3v2 at h
  split at h
  · next hn =>
    obtain rfl := Option.some.inj h
    refine (if_pos ⟨by simp, rfl⟩).trans ((congrArg (10 + ·) (synchsafe_of_groups hn)).trans ?_)
    rw [List.length_append, List.length_replicate]
    rfl
  · cases h

theorem trailingBound_append_of_long (tag : List Byte) {stream : List Byte} (h : 128 ≤ stream.length) :
    trailingBound (tag ++ stream) = tag.length + trailingBound stream := by
  have hoff : ∀ k ≤ 128, bufAt (tag ++ stream) (tag.length + stream.length - k) =
      bufAt stream (stream.length - k) := by
    intro k hk
    rw [Nat.add_sub_assoc (hk.trans h), bufAt_append_right]
  have hlen : 128 ≤ tag.length + stream.length := by omega
  simp only [trailingBound, hoff 128 le_rfl, hoff 127 (by omega), hoff 126 (by omega), List.length_append, h, hlen,
    true_and]
  split
  · exact Nat.add_sub_assoc h _
  · rfl

/-- R212, precondition 2: the trailing tag is looked for at the same place of the stream, or is not found. -/
theorem trailingBound_append_left {tag stream : List Byte}
    (h : stream.length < 128 → 128 ≤ (tag ++ stream).length →
      ¬ ((tag ++ stream).drop ((tag ++ stream).length - 128)).take 3 = [0x54, 0x41, 0x47]) :
    trailingBound (tag ++ stream) = tag.length + trailingBound stream := by
  by_cases hlen : 128 ≤ stream.length
  · exact trailingBound_append_of_long tag hlen
  · rw [trailingBound_of_no_mark (h (Nat.not_le.1 hlen)), List.length_append,
      trailingBound_of_no_mark fun hle => absurd hle hlen]

/-! ## The trailing tag (R212) -/

/-- A trailing tag does not complete a leading marker. -/
theorem take_three_append_id3v1 {stream : List Byte} (body : List Byte)
    (h : ¬ stream.take 3 = [0x49, 0x44, 0x33]) :
    ¬ (stream ++ ([0x54, 0x41, 0x47] ++ body)).take 3 = [0x49, 0x44, 0x33] := by
  match stream with
  | [] => simp
  | [_] => simp
  | [_, _] => simp
  | _ :: _ :: _ :: _ => simpa using h

/-- R136: the bound is the offset of the tag. -/
theorem trailingBound_append_id3v1 (stream : List Byte) {body : List Byte} (h : body.length = 125) :
    trailingBound (stream ++ ([0x54, 0x41, 0x47] ++ body)) = stream.length := by
  have hlen : (stream ++ ([0x54, 0x41, 0x47] ++ body)).length = stream.length + 128 := by
    simp [h]
  have hoff : ∀ k ≤ 128, bufAt (stream ++ ([0x54, 0x41, 0x47] ++ body)) (stream.length + 128 - k) =
      bufAt ([0x54, 0x41, 0x47] ++ body) (128 - k) := by
    intro k hk
    rw [Nat.add_sub_assoc hk, bufAt_append_right]
  rw [trailingBound, hlen, hoff 128 le_rfl, hoff 127 (by omega), hoff 126 (by omega), Nat.add_sub_cancel]
  exact if_pos ⟨Nat.le_add_left _ _, rfl⟩

end Sys2Proof.Machine

namespace Sys2Proof.Proofs

open Sys2Proof.Machine

/-- Settles O30: no guard, no candidate, or the source's frame as the only one. -/
theorem countFramesCornerCases : Obligations.CountFramesCornerCases := by
  refine ⟨fun l buf => countFrames_of_short l, countFrames_zero, fun k => ?_⟩
  rw [List.append_assoc, List.replicate_append_replicate]
  exact countFrames_source_frame k

/-- Settles O31: start, bound and every candidate lie the tag's length further on. -/
theorem leadingTagIsTransparent : Obligations.LeadingTagIsTransparent := by
  intro l n f tag stream htag hlead htrail
  refine countFrames_eq_of_shift tag.length ?_ (trailingBound_append_left htrail)
    fun p _ => bufWord_append_right tag stream p
  rw [leadingStart_imageId3v2_append htag, leadingStart_of_no_mark hlead, Nat.add_zero]

/-- Settles O32: the start is 0 and the bound the stream's length with and without the tag. -/
theorem trailingTagIsTransparent : Obligations.TrailingTagIsTransparent := by
  intro l stream body hbody hlead htrail
  have hbound := trailingBound_of_no_mark htrail
  refine countFrames_eq_of_shift 0 ?_ ?_ fun p hp => ?_
  · rw [leadingStart_of_no_mark hlead, leadingStart_of_no_mark (take_three_append_id3v1 body hlead)]
  · rw [trailingBound_append_id3v1 stream hbody, hbound, Nat.zero_add]
  · rw [Nat.zero_add, bufWord_append_left _ (hbound ▸ hp)]

end Sys2Proof.Proofs
end

section
/-! PROOFS. The whole scan (spec/44_scan_loop.md R209, R210): the machine refines the result function. Each scanner step
on a written buffer is the matching part of the function, and the loop is an induction over its bound. -/

namespace Sys2Proof.Machine

open Sys2Proof.Claims

/-! ## The scanner alone on a buffer -/

/-- No outside event is left, and the host has written `buf` and its length (R265). -/
structure ScansAlone (l : HdrLayout) (buf : List Byte) (s : State) : Prop where
  alone : s.inputs = []
  layout : s.cfg.hdrLayout = l
  len : s.len.toNat = buf.length
  fits : buf.length ≤ s.cfg.bufMax.toNat
  holds : s.Holds buf

theorem ScannerStep.inputs_eq {s t : State} (hst : ScannerStep s t) : t.inputs = s.inputs := by
  cases hst with
  | candidate w => exact (frameStep_sameMemory _ _ _ (latchHdr w s)).inputs
  | _ => rfl

theorem loadedByte_of_sameBuffer {s t : State} (h : SameBuffer s t) (a : Nat) : t.loadedByte a = s.loadedByte a := by
  rw [State.loadedByte, State.loadedByte, h.written, h.bufmem]

namespace ScansAlone

variable {l : HdrLayout} {buf : List Byte} {s t : State} (h : ScansAlone l buf s)
include h

theorem moves : ScannerMoves s := .inl h.alone

/-- R61: a step of the scanner leaves it alone on the same buffer. -/
theorem after_step (hst : step s = .next t) : ScansAlone l buf t := by
  have hscan := scannerStep_of_step h.moves hst
  have hsame : SameBuffer s t := { hscan.sameBuffer with }
  have hcfg : t.cfg = s.cfg := hscan.cfg_eq
  exact
    { alone := by rw [hscan.inputs_eq, taken, h.alone, List.tail_nil]
      layout := hcfg ▸ h.layout
      len := hsame.len ▸ h.len
      fits := hcfg ▸ h.fits
      holds := fun k hk => (loadedByte_of_sameBuffer hsame k).trans (h.holds k hk) }

theorem bufRead_eq {k : Nat} (hk : k < buf.length) : bufRead s k = .ok (bufAt buf k) :=
  bufRead_of_read (hk.trans_le h.fits) (h.holds k hk)

theorem bufRead3_eq {k : Nat} (hk : k + 2 < buf.length) :
    bufRead3 s k = .ok (bufAt buf k, bufAt buf (k + 1), bufAt buf (k + 2)) :=
  bufRead3_eq_ok (h.bufRead_eq (by omega)) (h.bufRead_eq (by omega)) (h.bufRead_eq hk)

theorem memRead4_eq {k : Nat} (hk : k + 3 < buf.length) : memRead4 s k = .ok (bufWord buf k) :=
  memRead4_eq_ok (h.bufRead_eq (by omega)) (h.bufRead_eq (by omega)) (h.bufRead_eq (by omega)) (h.bufRead_eq hk)

/-! ## The tag steps -/

/-- R132: the LEAD_TAG step writes `start` of R210. -/
theorem step_leadTag (hf : s.fsm = .leadTag) :
    step s = .next (setStart (leadingStart buf) (taken s)) := by
  rw [leadingStart, ← h.len]
  by_cases hl : 10 ≤ s.len.toNat
  case neg =>
    rw [if_neg fun hc => hl hc.1]
    exact step_leadTag_of_short h.moves hf (Nat.not_le.1 hl)
  have hlen := h.len
  have h3 := h.bufRead3_eq (k := 0) (by omega)
  by_cases hmark : isId3v2Mark (bufAt buf 0) (bufAt buf 1) (bufAt buf 2) = true
  · have h4 := bufRead4_eq_ok (h.bufRead_eq (k := 6) (by omega)) (h.bufRead_eq (by omega))
      (h.bufRead_eq (by omega)) (h.bufRead_eq (by omega))
    rw [step_leadTag_of_mark h.moves hf hl h3 hmark h4, if_pos ⟨hl, hmark⟩, ← sizeOfBytes_eq_synchsafe]
    exact exec_id3v2Mark_of_room _ _ _ _ (s := taken s) hl
  · rw [if_neg fun hc => hmark hc.2]
    exact step_leadTag_of_noMark h.moves hf hl h3 hmark

/-- R136: the TRAIL_TAG step writes `end` of R210. -/
theorem step_trailTag (hf : s.fsm = .trailTag) :
    step s = .next (setEnd (trailingBound buf) (taken s)) := by
  rw [trailingBound, ← h.len]
  by_cases hl : 128 ≤ s.len.toNat
  case neg =>
    rw [if_neg fun hc => hl hc.1]
    exact step_trailTag_of_short h.moves hf (Nat.not_le.1 hl)
  have hlen := h.len
  have h3 := h.bufRead3_eq (k := s.len.toNat - 128) (by omega)
  have e1 : s.len.toNat - 128 + 1 = s.len.toNat - 127 := by omega
  have e2 : s.len.toNat - 128 + 2 = s.len.toNat - 126 := by omega
  rw [e1, e2] at h3
  split
  · next hc =>
    rw [step_trailTag_of_mark h.moves hf hl h3 hc.2, exec_id3v1Mark_of_room (s := taken s) hl]
    exact congrArg Host.Outcome.next (setEnd_len_sub (s := taken s) hl).symm
  · next hc => exact step_trailTag_of_noMark h.moves hf hl h3 fun hmark => hc ⟨hl, hmark⟩

end ScansAlone

/-! ## The report -/

/-- FINISH has reported a result (R206). -/
structure Reports (r : ScanResult) (u : State) : Prop where
  idle : u.fsm = .idle
  done : u.status.done = true
  noErr : u.status.err = false
  startPos : u.startPos.toNat = r.startPos
  endBound : u.endBound.toNat = r.endBound
  pos : u.pos.toNat = r.pos
  count : u.count.toNat = r.count
  trunc : u.status.trunc = r.trunc

/-- After `k` steps or fewer the machine has reported `r`. -/
def ReportsWithin (k : Nat) (r : ScanResult) (s : State) : Prop :=
  ∃ n u, n ≤ k ∧ Host.Core.run Sys2Proof.core n s = .next u ∧ Reports r u

theorem ReportsWithin.mono {j k : Nat} {r : ScanResult} {s : State} (h : ReportsWithin j r s) (hle : j ≤ k) :
    ReportsWithin k r s := by
  obtain ⟨n, u, hn, hrun, hu⟩ := h
  exact ⟨n, u, hn.trans hle, hrun, hu⟩

theorem ReportsWithin.of_step {k : Nat} {r : ScanResult} {s t : State} (hst : step s = .next t)
    (h : ReportsWithin k r t) : ReportsWithin (k + 1) r s := by
  obtain ⟨n, u, hn, hrun, hu⟩ := h
  exact ⟨n + 1, u, Nat.succ_le_succ hn, (run_succ hst).trans hrun, hu⟩

/-- The FINISH step reports what the registers hold. -/
theorem ReportsWithin.of_finish {l : HdrLayout} {buf : List Byte} {r : ScanResult} {s : State}
    (h : ScansAlone l buf s) (hf : s.fsm = .finish) (hr : Reports r (finishScan (taken s))) :
    ReportsWithin 1 r s :=
  .of_step (step_finish h.moves hf) ⟨0, _, le_rfl, rfl, hr⟩

/-! ## The loop -/

/-- The scanner searches the buffer: no frame has been refused, and COUNT is small enough not to wrap (R28). -/
structure Searches (l : HdrLayout) (buf : List Byte) (start bound : Nat) (s : State) : Prop
    extends ScansAlone l buf s where
  fsm : s.fsm = .scan
  noErr : s.status.err = false
  noTrunc : s.status.trunc = false
  startPos : s.startPos.toNat = start
  endBound : s.endBound.toNat = bound
  boundLe : bound ≤ buf.length
  countLe : s.count.toNat ≤ s.pos.toNat

/-- The result of a scan from `start` to `bound` whose loop answers `p`. -/
def loopResult (start bound : Nat) (p : Nat × Nat × Bool) : ScanResult :=
  { startPos := start, endBound := bound, pos := p.1, count := p.2.1, trunc := p.2.2 }

theorem scanBuffer_eq (l : HdrLayout) (buf : List Byte) :
    scanBuffer l buf = loopResult (leadingStart buf) (trailingBound buf)
      (scanFrom l buf (trailingBound buf) (trailingBound buf) (leadingStart buf) 0) := rfl

namespace Searches

variable {l : HdrLayout} {buf : List Byte} {start bound : Nat} {s : State} (h : Searches l buf start bound s)
include h

/-- R201: where the guard fails the loop ends with what the registers hold. -/
theorem reports_of_guard_fails (hg : bound ≤ s.pos.toNat + 4) :
    ReportsWithin 2 (loopResult start bound (s.pos.toNat, s.count.toNat, false)) s := by
  have hst := step_scan_of_guard_fails h.moves h.fsm (h.endBound.symm ▸ hg)
  exact .of_step hst (.of_finish (h.after_step hst) rfl
    ⟨rfl, rfl, h.noErr, h.startPos, h.endBound, rfl, rfl, h.noTrunc⟩)

variable {f : HdrFields} (hg : s.pos.toNat + 4 < bound) (hf : hdrFields l (bufWord buf s.pos.toNat) = f)
include hg hf

/-- R202: an invalid candidate leaves the search one byte further on. -/
theorem step_of_invalid (hv : f.valid = false) :
    ∃ t, step s = .next t ∧ Searches l buf start bound t ∧ t.pos.toNat = s.pos.toNat + 1 ∧
      t.count.toNat = s.count.toNat := by
  have hle := h.boundLe
  have hst := step_scan_of_invalid h.moves h.fsm (h.endBound.symm ▸ hg) (by rw [h.len]; omega)
    (h.memRead4_eq (by omega)) (by rw [h.layout, hf, hv])
  have hpos : (s.pos + 1).toNat = s.pos.toNat + 1 :=
    word_add_one_toNat (n := s.endBound.toNat) (by rw [h.endBound]; omega) s.endBound.isLt
  refine ⟨_, hst, { h.after_step hst, h with countLe := ?_ }, hpos, rfl⟩
  exact h.countLe.trans (hpos ▸ Nat.le_succ _)

variable (hv : f.valid = true)
include hv

/-- The SCAN step on a valid candidate. -/
theorem step_of_valid : step s =
    .next (frameStep f.bri f.sri f.pad (latchHdr (bufWord buf s.pos.toNat) (taken s))) := by
  have hle := h.boundLe
  have hf' : hdrFields s.cfg.hdrLayout (bufWord buf s.pos.toNat) = f := h.layout.symm ▸ hf
  rw [step_scan_of_valid h.moves h.fsm (h.endBound.symm ▸ hg) (by rw [h.len]; omega) (h.memRead4_eq (by omega))
    (hf' ▸ hv), hf']

/-- R204: a frame that reaches END_BOUND ends the scan with TRUNC set. -/
theorem reports_of_frame_at_bound (hend : bound ≤ s.pos.toNat + flen f.bri f.sri f.pad) :
    ReportsWithin 2 (loopResult start bound (s.pos.toNat, s.count.toNat, true)) s := by
  have hst := h.step_of_valid hg hf hv
  rcases frameStep_cases f.bri f.sri f.pad (latchHdr (bufWord buf s.pos.toNat) (taken s)) with
    ⟨_, e⟩ | ⟨hlt, _⟩
  · rw [e] at hst
    exact .of_step hst (.of_finish (h.after_step hst) rfl
      ⟨rfl, rfl, h.noErr, h.startPos, h.endBound, rfl, rfl, rfl⟩)
  · exact absurd (h.endBound ▸ hlt) (Nat.not_lt.2 hend)

/-- R205: a counted frame leaves the search at its end. -/
theorem step_of_frame (hend : s.pos.toNat + flen f.bri f.sri f.pad < bound) :
    ∃ t, step s = .next t ∧ Searches l buf start bound t ∧
      t.pos.toNat = s.pos.toNat + flen f.bri f.sri f.pad ∧ t.count.toNat = s.count.toNat + 1 := by
  have hst := h.step_of_valid hg hf hv
  have hlen := flen_ge_of_valid hv
  have hcountLe := h.countLe
  rcases frameStep_cases f.bri f.sri f.pad (latchHdr (bufWord buf s.pos.toNat) (taken s)) with
    ⟨hle, _⟩ | ⟨hlt, e⟩
  · exact absurd (h.endBound ▸ hle) (Nat.not_le.2 hend)
  · rw [e] at hst
    have hpos := countFrame_pos_toNat hlt
    have hcount : (s.count + 1).toNat = s.count.toNat + 1 :=
      word_add_one_toNat (n := s.endBound.toNat) (by rw [h.endBound]; omega) s.endBound.isLt
    have hle : s.count.toNat + 1 ≤ s.pos.toNat + flen f.bri f.sri f.pad := by omega
    refine ⟨_, hst, { h.after_step hst, h with countLe := ?_ }, hpos, hcount⟩
    rw [releaseHdr_pos, hpos]
    exact hcount.trans_le hle

end Searches

/-- R209, R210: the loop of the machine is the loop of the result function, and takes a step for each candidate, one
for the guard that fails or the frame that is refused, and FINISH. -/
theorem Searches.reports {l : HdrLayout} {buf : List Byte} {start bound : Nat} (fuel : Nat) {s : State}
    (h : Searches l buf start bound s) (hfuel : bound ≤ s.pos.toNat + 4 + fuel) :
    ReportsWithin (bound - 4 - s.pos.toNat + 2)
      (loopResult start bound (scanFrom l buf bound fuel s.pos.toNat s.count.toNat)) s := by
  induction fuel generalizing s with
  | zero =>
    rw [scanFrom_of_guard_fails _ _ _ _ hfuel]
    exact (h.reports_of_guard_fails hfuel).mono (by omega)
  | succ fuel ih =>
    cases loopBranch l buf bound s.pos.toNat with
    | guardFails hg =>
      rw [scanFrom_of_guard_fails _ _ _ _ hg]
      exact (h.reports_of_guard_fails hg).mono (by omega)
    | invalid f hg hf hv =>
      obtain ⟨t, hst, ht, hpos, hcount⟩ := h.step_of_invalid hg hf hv
      rw [scanFrom_of_invalid _ _ hg hf hv, ← hpos, ← hcount]
      exact (ReportsWithin.of_step hst (ih ht (by omega))).mono (by omega)
    | frameAtBound f hg hf hv hend =>
      rw [scanFrom_of_frame_at_bound _ _ hg hf hv hend]
      exact (h.reports_of_frame_at_bound hg hf hv hend).mono (by omega)
    | frame f hg hf hv hend =>
      have hlen := flen_ge_of_valid hv
      obtain ⟨t, hst, ht, hpos, hcount⟩ := h.step_of_frame hg hf hv hend
      rw [scanFrom_of_frame _ _ hg hf hv hend, ← hpos, ← hcount]
      exact (ReportsWithin.of_step hst (ih ht (by omega))).mono (by omega)

/-! ## From START -/

theorem leadingStart_le (buf : List Byte) : leadingStart buf ≤ 268435465 := by
  have := synchsafe_lt (bufAt buf 6) (bufAt buf 7) (bufAt buf 8) (bufAt buf 9)
  unfold leadingStart
  split <;> omega

/-- R132, R136: from what an accepted START leaves, the two tag steps begin the search. -/
theorem ScansAlone.searches_of_start {l : HdrLayout} {buf : List Byte} {s : State} (h : ScansAlone l buf s)
    (hf : s.fsm = .leadTag) (herr : s.status.err = false) (htrunc : s.status.trunc = false)
    (hcount : s.count = 0) :
    ∃ t u, step s = .next t ∧ step t = .next u ∧
      Searches l buf (leadingStart buf) (trailingBound buf) u ∧ u.pos.toNat = leadingStart buf ∧
      u.count.toNat = 0 := by
  have hlead := h.step_leadTag hf
  have halone := h.after_step hlead
  have htrail := halone.step_trailTag rfl
  have hstart := setStart_startPos_toNat (leadingStart_le buf) (taken s)
  have hzero : s.count.toNat = 0 := congrArg BitVec.toNat hcount
  exact ⟨_, _, hlead, htrail,
    { halone.after_step htrail with
      fsm := rfl
      noErr := herr
      noTrunc := htrunc
      startPos := hstart
      endBound := setEnd_endBound_toNat ((trailingBound_le buf).trans halone.len.ge)
      boundLe := trailingBound_le buf
      countLe := hzero.trans_le (Nat.zero_le _) }, hstart, hzero⟩

/-- R209, R210: the two tag steps and the loop report the whole scan. -/
theorem ScansAlone.reports_of_start {l : HdrLayout} {buf : List Byte} {s : State} (h : ScansAlone l buf s)
    (hf : s.fsm = .leadTag) (herr : s.status.err = false) (htrunc : s.status.trunc = false)
    (hcount : s.count = 0) :
    ReportsWithin (trailingBound buf - 4 - leadingStart buf + 4) (scanBuffer l buf) s := by
  obtain ⟨t, u, hlead, htrail, hsearch, hpos, hzero⟩ := h.searches_of_start hf herr htrunc hcount
  have hloop := hsearch.reports (trailingBound buf) (by omega)
  rw [hpos, hzero, ← scanBuffer_eq] at hloop
  exact .of_step hlead (.of_step htrail hloop)

end Sys2Proof.Machine

namespace Sys2Proof.Proofs

open Sys2Proof.Machine Sys2Proof.Claims

/-- Settles O29: START is accepted, and the scan that follows reports the result function. -/
theorem scanComputesCountFrames : Obligations.ScanComputesCountFrames := by
  intro s buf v hf hv hi hlen hfits hholds
  have hstart : exec (.wrCtrl v) s = .next (acceptStart (setIe v s)) := by
    rw [exec_wrCtrl_of_startBit hv, start_of_accepted (s := setIe v s) hf (hlen.trans_le hfits)]
  have halone : ScansAlone s.cfg.hdrLayout buf (acceptStart (setIe v s)) := ⟨hi, rfl, hlen, hfits, hholds⟩
  obtain ⟨n, u, hn, hrun, hu⟩ := halone.reports_of_start rfl rfl rfl rfl
  exact ⟨_, u, n, hstart, hn, hrun, hu.idle, hu.done, hu.noErr, hu.count, hu.startPos, hu.endBound, hu.pos,
    hu.trunc⟩

end Sys2Proof.Proofs
end

section
/-! PROOFS. No content of the buffer stops the scanner (spec/60_exceptions.md R231): while BUSY every read of a turn
lies below LEN, and LEN lies inside the buffer, so a turn on a written buffer reads only written bytes. -/

namespace Sys2Proof.Machine

open Sys2Proof.Claims

/-- The scanner's steps write neither ERR nor HAZ. -/
theorem ScannerStep.keeps_err_haz {s t : State} (hst : ScannerStep s t) :
    t.status.err = s.status.err ∧ t.status.haz = s.status.haz := by
  cases hst with
  | candidate w =>
    rcases frameStep_cases (hdrFields s.cfg.hdrLayout w).bri (hdrFields s.cfg.hdrLayout w).sri
      (hdrFields s.cfg.hdrLayout w).pad (latchHdr w s) with ⟨_, e⟩ | ⟨_, e⟩ <;> rw [e] <;> exact ⟨rfl, rfl⟩
  | _ => exact ⟨rfl, rfl⟩

/-! ## The reads of a written buffer -/

section Loaded

variable {s : State} (h : s.Loaded) (hfits : s.len.toNat ≤ s.cfg.bufMax.toNat)
include h hfits

theorem State.Loaded.bufRead3_ok {a : Nat} (ha : a + 2 < s.len.toNat) :
    ∃ b0 b1 b2, bufRead3 s a = .ok (b0, b1, b2) :=
  Machine.bufRead3_ok (h a (by omega)) (h (a + 1) (by omega)) (h (a + 2) ha) (by omega)

theorem State.Loaded.bufRead4_ok {a : Nat} (ha : a + 3 < s.len.toNat) :
    ∃ b0 b1 b2 b3, bufRead4 s a = .ok (b0, b1, b2, b3) :=
  Machine.bufRead4_ok (h a (by omega)) (h (a + 1) (by omega)) (h (a + 2) (by omega)) (h (a + 3) ha) (by omega)

theorem State.Loaded.memRead4_ok {a : Nat} (ha : a + 3 < s.len.toNat) : ∃ w, memRead4 s a = .ok w := by
  obtain ⟨b0, b1, b2, b3, h4⟩ := h.bufRead4_ok hfits ha
  exact ⟨wordOfBytes b0 b1 b2 b3, by rw [memRead4, h4]⟩

/-! ## The turns on a written buffer -/

theorem step_leadTag_progress (hm : ScannerMoves s) (hf : s.fsm = .leadTag) : ∃ t, step s = .next t := by
  rcases Nat.lt_or_ge s.len.toNat 10 with hl | hl
  · exact ⟨_, step_leadTag_of_short hm hf hl⟩
  obtain ⟨m0, m1, m2, h3⟩ := h.bufRead3_ok hfits (a := 0) (by omega)
  by_cases hmark : isId3v2Mark m0 m1 m2 = true
  · obtain ⟨b6, b7, b8, b9, h4⟩ := h.bufRead4_ok hfits (a := 6) (by omega)
    exact ⟨_, (step_leadTag_of_mark hm hf hl h3 hmark h4).trans
      (exec_id3v2Mark_of_room b6 b7 b8 b9 (s := taken s) hl)⟩
  · exact ⟨_, step_leadTag_of_noMark hm hf hl h3 hmark⟩

theorem step_trailTag_progress (hm : ScannerMoves s) (hf : s.fsm = .trailTag) : ∃ t, step s = .next t := by
  rcases Nat.lt_or_ge s.len.toNat 128 with hl | hl
  · exact ⟨_, step_trailTag_of_short hm hf hl⟩
  obtain ⟨m0, m1, m2, h3⟩ := h.bufRead3_ok hfits (a := s.len.toNat - 128) (by omega)
  by_cases hmark : isId3v1Mark m0 m1 m2 = true
  · exact ⟨_, (step_trailTag_of_mark hm hf hl h3 hmark).trans (exec_id3v1Mark_of_room (s := taken s) hl)⟩
  · exact ⟨_, step_trailTag_of_noMark hm hf hl h3 hmark⟩

/-- The guard keeps a candidate below END_BOUND, so with END_BOUND ≤ LEN its four bytes are written. -/
theorem step_scan_progress (hm : ScannerMoves s) (hf : s.fsm = .scan) (hbound : s.endBound.toNat ≤ s.len.toNat) :
    ∃ t, step s = .next t := by
  rcases Nat.lt_or_ge (s.pos.toNat + 4) s.endBound.toNat with hg | hg
  · have hl : s.pos.toNat + 3 < s.len.toNat := by omega
    obtain ⟨w, hw⟩ := h.memRead4_ok hfits hl
    cases hv : (hdrFields s.cfg.hdrLayout w).valid with
    | false => exact ⟨_, step_scan_of_invalid hm hf hg hl hw hv⟩
    | true => exact ⟨_, step_scan_of_valid hm hf hg hl hw hv⟩
  · exact ⟨_, step_scan_of_guard_fails hm hf hg⟩

end Loaded

/-- R231: with the invariant and a written buffer every turn of the scanner gives a next state. -/
theorem State.Loaded.scanner_progress {s : State} (h : s.Loaded) (hinv : s.Inv) (hm : ScannerMoves s) :
    ∃ t, step s = .next t := by
  cases hf : s.fsm with
  | idle =>
    obtain ⟨hidle, -⟩ := Proofs.idleKeepsTheResults s hf
    exact ⟨_, hidle hm⟩
  | leadTag =>
    obtain ⟨-, hfits⟩ := hinv.busyLen (State.busy_of_fsm hf)
    exact step_leadTag_progress h hfits hm hf
  | trailTag =>
    obtain ⟨-, hfits⟩ := hinv.busyLen (State.busy_of_fsm hf)
    exact step_trailTag_progress h hfits hm hf
  | scan =>
    obtain ⟨hbound, hfits⟩ := hinv.busyLen (State.busy_of_fsm hf)
    exact step_scan_progress h hfits hm hf hbound
  | finish => exact ⟨_, step_finish hm hf⟩

end Sys2Proof.Machine

namespace Sys2Proof.Proofs

open Sys2Proof.Machine

/-- Settles O27: the turn gives a next state, and none of the scanner's steps writes ERR or HAZ. -/
theorem noContentStopsTheScanner : Obligations.NoContentStopsTheScanner := by
  intro s hinv hloaded hm
  obtain ⟨t, ht⟩ := hloaded.scanner_progress hinv hm
  exact ⟨t, ht, (scannerStep_of_step hm ht).keeps_err_haz⟩

end Sys2Proof.Proofs
end

section
/-! PROOFS. What the host can do to a scan in progress (spec/60_exceptions.md R234): its refused accesses raise HAZ,
and its write of STATUS clears flags. -/

namespace Sys2Proof.Machine

/-- The scan registers and the buffer are the same in both states, and DONE and ERR are not set anew. -/
structure ScanUndisturbed (s t : State) : Prop extends SameScan s t, SameBuffer s t where
  done : s.status.done = false → t.status.done = false
  err : s.status.err = false → t.status.err = false

theorem raiseHazard_undisturbed (k : HazardKind) (s : State) : ScanUndisturbed s (raiseHazard k s) :=
  ⟨⟨rfl, rfl, rfl, rfl, rfl, rfl⟩, ⟨rfl, rfl, rfl⟩, id, id⟩

theorem acknowledge_undisturbed (v : Word) (s : State) : ScanUndisturbed s (acknowledge v s) :=
  ⟨⟨rfl, rfl, rfl, rfl, rfl, rfl⟩, ⟨rfl, rfl, rfl⟩, fun h => by simp [h], fun h => by simp [h]⟩

/-- While BUSY a START, and a write of LEN or of BUFMEM, is refused (R102, R105, R107). -/
theorem HostStep.undisturbed_of_busy {s t : State} {i : Instr} (hst : HostStep s i t) (hb : s.fsm ≠ .idle) :
    ScanUndisturbed s t := by
  cases hst with
  | start v =>
    rw [start_of_busy (s := setIe v s) hb]
    exact { raiseHazard_undisturbed .start (setIe v s) with }
  | status v => exact acknowledge_undisturbed v s
  | lenHazard => exact raiseHazard_undisturbed .len s
  | bufHazard => exact raiseHazard_undisturbed .buf s
  | len _ hf => exact absurd hf hb
  | store _ _ hf => exact absurd hf hb
  | read | ctrl | ignored => exact ⟨⟨rfl, rfl, rfl, rfl, rfl, rfl⟩, ⟨rfl, rfl, rfl⟩, id, id⟩

/-- A host access while BUSY, to this block or to none of its windows, leaves the scan undisturbed. -/
theorem step_access_undisturbed {s t : State} {a : BusAccess} {rest : List Input} (hb : s.fsm ≠ .idle)
    (hi : s.inputs = .access a :: rest) (hst : step s = .next t) : ScanUndisturbed s t := by
  rcases step_cases hst with ⟨hm | ⟨_, hm⟩, _⟩ | ⟨_, _, _, _, rfl⟩ | ⟨_, _, _, _, _, _, hhost⟩ |
    ⟨_, hr, _⟩ | ⟨_, hr, _⟩
  · cases hi.symm.trans hm
  · cases hi.symm.trans hm
  · exact ⟨⟨rfl, rfl, rfl, rfl, rfl, rfl⟩, ⟨rfl, rfl, rfl⟩, id, id⟩
  · exact { hhost.undisturbed_of_busy hb with }
  · cases hi.symm.trans hr
  · cases hi.symm.trans hr

end Sys2Proof.Machine

namespace Sys2Proof.Proofs

open Sys2Proof.Machine

/-- Settles O50: every host access while BUSY is a read, is ignored or refused, or writes IE or clears flags. -/
theorem hostCannotDisturbAScan : Obligations.HostCannotDisturbAScan := by
  intro s t a rest hb hi hst
  have h := step_access_undisturbed (State.busy_eq_true.1 hb) hi hst
  exact ⟨h.fsm, h.count, h.startPos, h.endBound, h.pos, h.len, h.bufmem, h.written,
    noStepChangesTheParameters s t hst, h.trunc, h.done, h.err⟩

end Sys2Proof.Proofs
end

section
/-! PROOFS. HAZ does not affect the scan (spec/60_exceptions.md R234): replacing HAZ commutes with the scanner's
turn. -/

namespace Sys2Proof.Machine

open Sys2Proof.Claims

/-- The state with another value in HAZ. -/
def withHaz (h : Bool) (s : State) : State := { s with status := { s.status with haz := h } }

/-! What the tests and reads of the scanner's turn see does not include HAZ. -/

@[simp] theorem withHaz_fsm (h : Bool) (s : State) : (withHaz h s).fsm = s.fsm := rfl
@[simp] theorem withHaz_len (h : Bool) (s : State) : (withHaz h s).len = s.len := rfl
@[simp] theorem withHaz_pos (h : Bool) (s : State) : (withHaz h s).pos = s.pos := rfl
@[simp] theorem withHaz_cfg (h : Bool) (s : State) : (withHaz h s).cfg = s.cfg := rfl
@[simp] theorem roomForId3v2_withHaz (h : Bool) (s : State) : (withHaz h s).roomForId3v2 = s.roomForId3v2 := rfl
@[simp] theorem roomForId3v1_withHaz (h : Bool) (s : State) : (withHaz h s).roomForId3v1 = s.roomForId3v1 := rfl
@[simp] theorem guard_withHaz (h : Bool) (s : State) : (withHaz h s).guard = s.guard := rfl
@[simp] theorem outOfBounds_withHaz (h : Bool) (s : State) : (withHaz h s).outOfBounds = s.outOfBounds := rfl
@[simp] theorem bufRead3_withHaz (h : Bool) (s : State) (a : Nat) : bufRead3 (withHaz h s) a = bufRead3 s a := rfl
@[simp] theorem bufRead4_withHaz (h : Bool) (s : State) (a : Nat) : bufRead4 (withHaz h s) a = bufRead4 s a := rfl
@[simp] theorem memRead4_withHaz (h : Bool) (s : State) (a : Nat) : memRead4 (withHaz h s) a = memRead4 s a := rfl

/-! ## The scanner's instructions -/

/-- A valid candidate's step keeps HAZ, whether the boundary rule ends the scan or not. -/
theorem frameStep_withHaz (h : Bool) (bri : BitVec 4) (sri : BitVec 2) (pad : BitVec 1) (s : State) :
    frameStep bri sri pad (withHaz h s) = withHaz h (frameStep bri sri pad s) := by
  simp only [frameStep, apply_ite releaseHdr, apply_ite (withHaz h)]
  rfl

/-- No candidate row looks at HAZ. -/
theorem exec_decodeHdr_withHaz (h : Bool) (l : HdrLayout) (c : Word) (s : State) :
    exec (decodeHdr l c) (withHaz h s) = mapNext (withHaz h) (exec (decodeHdr l c) s) := by
  cases hv : (hdrFields l c).valid with
  | false =>
    have hmeaning := (decodeHdr_invalid hv).meaning
    rw [hmeaning, hmeaning]
    rfl
  | true =>
    obtain ⟨-, -, -, hmeaning, -⟩ := decodeHdr_valid hv
    rw [hmeaning, hmeaning, frameStep_withHaz, mapNext_next]

/-- Stated for every start position: with SIZE written out, the kernel would evaluate it. -/
theorem setStart_withHaz (n : Nat) (h : Bool) (s : State) : setStart n (withHaz h s) = withHaz h (setStart n s) := rfl

theorem execId3v2Mark_withHaz (b6 b7 b8 b9 : Byte) (h : Bool) (s : State) :
    execId3v2Mark b6 b7 b8 b9 (withHaz h s) = mapNext (withHaz h) (execId3v2Mark b6 b7 b8 b9 s) := by
  unfold execId3v2Mark
  rw [roomForId3v2_withHaz]
  split
  · rw [mapNext_next, setStart_withHaz]
  · rw [mapNext_next, setStart_withHaz]

theorem execId3v1Mark_withHaz (h : Bool) (s : State) :
    execId3v1Mark (withHaz h s) = mapNext (withHaz h) (execId3v1Mark s) := by
  simp only [execId3v1Mark, apply_ite (mapNext (withHaz h))]
  rfl

/-! ## The turns -/

theorem leadTagTurn_withHaz (h : Bool) (s : State) :
    runTurn (leadTagTurn (withHaz h s)) = mapNext (withHaz h) (runTurn (leadTagTurn s)) := by
  unfold leadTagTurn
  rw [roomForId3v2_withHaz, bufRead3_withHaz, bufRead4_withHaz]
  split
  · split
    · rfl
    · split
      · split
        · rfl
        · exact execId3v2Mark_withHaz _ _ _ _ h s
      · rfl
  · rfl

theorem trailTagTurn_withHaz (h : Bool) (s : State) :
    runTurn (trailTagTurn (withHaz h s)) = mapNext (withHaz h) (runTurn (trailTagTurn s)) := by
  unfold trailTagTurn
  rw [roomForId3v1_withHaz, bufRead3_withHaz, withHaz_len]
  split
  · split
    · rfl
    · split
      · exact execId3v1Mark_withHaz h s
      · rfl
  · rfl

theorem scanTurn_withHaz (h : Bool) (s : State) :
    runTurn (scanTurn (withHaz h s)) = mapNext (withHaz h) (runTurn (scanTurn s)) := by
  unfold scanTurn
  rw [guard_withHaz, outOfBounds_withHaz, memRead4_withHaz, withHaz_pos, withHaz_cfg]
  split
  · split
    · rfl
    · split
      · rfl
      · next w _ => exact exec_decodeHdr_withHaz h _ w (latchHdr w s)
  · rfl

theorem scannerTurn_withHaz (h : Bool) (s : State) :
    runTurn (scannerTurn (withHaz h s)) = mapNext (withHaz h) (runTurn (scannerTurn s)) := by
  unfold scannerTurn
  rw [withHaz_fsm]
  split
  · rfl
  · exact leadTagTurn_withHaz h s
  · exact trailTagTurn_withHaz h s
  · exact scanTurn_withHaz h s
  · rfl

/-- The scanner's step neither looks at HAZ nor writes it. -/
theorem step_withHaz (h : Bool) {s : State} (hm : ScannerMoves s) :
    step (withHaz h s) = mapNext (withHaz h) (step s) := by
  rw [step_scanner hm, step_scanner (s := withHaz h s) hm]
  exact scannerTurn_withHaz h (beginTurn s.inputs.tail s)

end Sys2Proof.Machine

namespace Sys2Proof.Proofs

open Sys2Proof.Machine

/-- Settles O51: the replacement of HAZ passes through the step, to the next state or to the same fault. -/
theorem hazardFlagDoesNotAffectTheScan : Obligations.HazardFlagDoesNotAffectTheScan := by
  intro s h hm
  have hstep : ∀ r, step s = r →
      step { s with status := { s.status with haz := h } } = mapNext (withHaz h) r :=
    fun _ hr => hr ▸ step_withHaz h hm
  exact ⟨fun _ ht => hstep _ ht, fun _ hf => hstep _ hf⟩

end Sys2Proof.Proofs
end

section
/-! PROOFS. Several instances on one platform (spec/60_exceptions.md R243): a step replaces one entry of the list of
instances by a state with the same parameters. -/

namespace Sys2Proof.Machine

/-- Everything a step of a platform with a next state can do. -/
theorem Platform.stepInstance_cases {p q : Platform} {k : Nat} (h : p.stepInstance k = .next q) :
    q = p ∨ ∃ s t, p.instances[k]? = some s ∧ step s = .next t ∧ q = ⟨p.instances.set k t⟩ := by
  unfold Platform.stepInstance at h
  split at h
  · cases h
    exact .inl rfl
  · next s hs =>
    split at h
    · next t ht =>
      cases h
      exact .inr ⟨s, t, hs, ht, rfl⟩
    · cases h
    · cases h

theorem Platform.stepInstance_length {p q : Platform} {k : Nat} (h : p.stepInstance k = .next q) :
    q.instances.length = p.instances.length := by
  rcases Platform.stepInstance_cases h with rfl | ⟨s, t, _, _, rfl⟩
  · rfl
  · exact List.length_set

theorem Platform.stepInstance_other {p q : Platform} {j k : Nat} (hjk : j ≠ k)
    (h : p.stepInstance k = .next q) : q.instances[j]? = p.instances[j]? := by
  rcases Platform.stepInstance_cases h with rfl | ⟨s, t, _, _, rfl⟩
  · rfl
  · exact List.getElem?_set_ne hjk.symm

/-- The instance that was stepped keeps its parameters (R29), and the others are as they were. -/
theorem Platform.stepInstance_cfg {p q : Platform} {j k : Nat} {t : State} (h : p.stepInstance k = .next q)
    (ht : q.instances[j]? = some t) : ∃ s, p.instances[j]? = some s ∧ s.cfg = t.cfg := by
  by_cases hjk : j = k
  · subst hjk
    rcases Platform.stepInstance_cases h with rfl | ⟨s, u, hs, hu, rfl⟩
    · exact ⟨t, ht, rfl⟩
    · obtain ⟨hlt, -⟩ := List.getElem?_eq_some_iff.1 hs
      obtain rfl : u = t := by simpa [hlt] using ht
      exact ⟨s, hs, (Proofs.noStepChangesTheParameters s u hu).symm⟩
  · exact ⟨t, (Platform.stepInstance_other hjk h).symm.trans ht, rfl⟩

/-- Which addresses an instance owns depends on its parameters only. -/
theorem Platform.Apart.stepInstance {p q : Platform} {k : Nat} (hp : p.Apart)
    (h : p.stepInstance k = .next q) : q.Apart := by
  intro i j s t hij hs ht
  obtain ⟨s', hs', es⟩ := Platform.stepInstance_cfg h hs
  obtain ⟨t', ht', et⟩ := Platform.stepInstance_cfg h ht
  rw [← es, ← et]
  exact hp i j s' t' hij hs' ht'

theorem Platform.Legal.stepInstance {p q : Platform} {k : Nat} (hp : p.Legal)
    (h : p.stepInstance k = .next q) : q.Legal where
  atLeastOne := Platform.stepInstance_length h ▸ hp.atLeastOne
  apart := hp.apart.stepInstance h

/-- An address of one instance belongs to no other. -/
theorem Platform.Apart.not_owns {p : Platform} (hp : p.Apart) {j k : Nat} {s t : State} {addr : Nat} (hjk : j ≠ k)
    (hs : p.instances[j]? = some s) (ht : p.instances[k]? = some t) (ho : s.cfg.owns addr = true) :
    t.cfg.owns addr = false :=
  Bool.eq_false_iff.2 fun hto => hp j k s t hjk hs ht addr ⟨ho, hto⟩

end Sys2Proof.Machine

namespace Sys2Proof.Proofs

open Sys2Proof.Machine

/-- Settles O58: a step writes its own entry of the list, and neither the parameters nor the length. -/
theorem instancesShareNoState : Obligations.InstancesShareNoState :=
  ⟨fun _ _ _ _ hjk h => Platform.stepInstance_other hjk h,
    fun _ _ _ _ _ _ hp hjk hs ht ho => decodeAccess_of_not_owns (hp.not_owns hjk hs ht ho),
    fun _ _ _ hp h => ⟨hp.stepInstance h, Platform.stepInstance_length h⟩⟩

end Sys2Proof.Proofs
end

section
/-! PROOFS. The reset values (spec/70_reset_and_hazards.md R260, R261): RST, a power-up and the machine's first state
leave the same registers, and what the host reads and the interrupt line follow from them. -/

namespace Sys2Proof.Machine

open Sys2Proof.Claims

/-- The registers have the values of R260's table; HDR is unspecified there. -/
structure State.HasResetValues (s : State) : Prop where
  fsm : s.fsm = .idle
  ie : s.ie = false
  status : s.status = { done := false, err := false, haz := false, trunc := false }
  len : s.len = 0
  count : s.count = 0
  startPos : s.startPos = 0
  endBound : s.endBound = 0
  pos : s.pos = 0

theorem assertRst_hasResetValues (s : State) : (assertRst s).HasResetValues :=
  ⟨rfl, rfl, rfl, rfl, rfl, rfl, rfl, rfl⟩

/-- A power-up does to the registers what RST does (log 5). -/
theorem powerUp_hasResetValues (s : State) : (powerUp s).HasResetValues :=
  { assertRst_hasResetValues s with }

theorem State.reset_hasResetValues : State.reset.HasResetValues :=
  ⟨rfl, rfl, rfl, rfl, rfl, rfl, rfl, rfl⟩

namespace State.HasResetValues

variable {s : State}

theorem ctrlWord_eq_zero (h : s.HasResetValues) : s.ctrlWord = 0 := by
  simp [s.ctrlWord_eq, h.ie]

/-- No flag is set, and IDLE is not BUSY. -/
theorem statusWord_eq_zero (h : s.HasResetValues) : s.statusWord = 0 := by
  simp [s.statusWord_eq, statusOf, h.status, h.fsm]

theorem busy_eq_false (h : s.HasResetValues) : s.busy = false :=
  Bool.eq_false_iff.2 (State.not_busy_of_idle h.fsm)

theorem irq_eq_false (h : s.HasResetValues) : s.irq = false := by
  simp [State.irq, h.ie]

end State.HasResetValues

end Sys2Proof.Machine

namespace Sys2Proof.Proofs

open Sys2Proof.Machine

/-- Settles O1: the step is RST on the state with the event taken, and RST gives the reset values. -/
theorem rstGivesTheResetValues : Obligations.RstGivesTheResetValues := by
  intro s rest hi
  have h := assertRst_hasResetValues (beginTurn rest s)
  exact ⟨_, step_rst hi, h.fsm, h.ctrlWord_eq_zero, h.statusWord_eq_zero, h.len, h.count, h.startPos,
    h.endBound, h.pos, h.irq_eq_false, assertRst_bufmem _, assertRst_cfg _, assertRst_inputs _⟩

/-- Settles O2: in IDLE the scanner takes no step, and the reset machine has the reset values. -/
theorem resetMachineIsQuiescent : Obligations.ResetMachineIsQuiescent := by
  have h := State.reset_hasResetValues
  have hstep : step State.reset = .next State.reset :=
    (idleKeepsTheResults State.reset h.fsm).1 (.inl rfl)
  exact ⟨hstep, h.busy_eq_false, h.irq_eq_false, h.ctrlWord_eq_zero, h.statusWord_eq_zero,
    State.cfgWord_eq _, fun _ => rfl⟩

/-- Settles O59: a power-up gives RST's register values and empties BUFMEM. -/
theorem powerUpGivesTheResetValuesAndLosesBufmem : Obligations.PowerUpGivesTheResetValuesAndLosesBufmem := by
  intro s rest hi
  have h := powerUp_hasResetValues (beginTurn rest s)
  exact ⟨_, step_powerUp hi, h.fsm, h.ctrlWord_eq_zero, h.statusWord_eq_zero, h.len, h.count, h.startPos,
    h.endBound, h.pos, h.irq_eq_false, powerUp_cfg _, powerUp_inputs _, powerUp_powerUps _,
    fun a => ⟨rfl, hostByte_powerUp _ a⟩⟩

end Sys2Proof.Proofs
end
